-- ==== Sys2Proof/Word.lean ====
section
/-! DEFINITION. The words of the block: bytes, the port widths of spec/00_scope.md R7, and the eight-byte buffer every
frame, message and chunk is held in (R8: a buffer is an array of bytes indexed from 0). -/

namespace Sys2Proof

/-- R8: a byte is 8 bits, an unsigned integer 0 to 255. -/
abbrev Byte := BitVec 8

/-- Milliseconds on the host port, in the budget and on the delay port: `BUDGET_W` = 32 bits (R7). -/
abbrev Millis := BitVec 32

/-- The available-byte count of the transport port: `COUNT_W` = 16 bits (R7). -/
abbrev Count := BitVec 16

/-- The opaque transport error value: `TERR_W` = 32 bits (R7). -/
abbrev TErr := BitVec 32

/-- An eight-byte buffer, index 0 first (R8): the type of `acc`, `scr`, `txf`, `t_wdata`, `t_rdata`. -/
structure Buf where
  b0 : Byte := 0
  b1 : Byte := 0
  b2 : Byte := 0
  b3 : Byte := 0
  b4 : Byte := 0
  b5 : Byte := 0
  b6 : Byte := 0
  b7 : Byte := 0
deriving DecidableEq, Repr, Inhabited

/-- The buffer of eight 0x00 bytes. -/
def Buf.zero : Buf := {}

end Sys2Proof
end

