-- ==== Sys2Proof/Config.lean ====
section
/-! DEFINITION. The implementation parameters of spec/00_scope.md R6 and R7 with the values this hardware takes, the
inequalities spec/92_eei_decisions.md asks a parameter set to meet, and the free values (notes/assumptions/8.md). -/

namespace Sys2Proof

/-- R7, 92 D1: the buffer the reader's checksum is computed over. -/
inductive CkSource where
  | accumulator
  | lastChunk
deriving DecidableEq, Repr, Inhabited

/-- The parameters of R6 (fixed by the source) and R7 (decided by the spec), each with its stated value. -/
structure Params where
  frameLen : Nat := 8
  marker : Byte := 0xF5
  ckLo : Nat := 1
  ckHi : Nat := 5
  ckIdx : Nat := 6
  cmdIdx : Nat := 1
  paramIdx0 : Nat := 2
  typeIdx : Nat := 1
  q1Idx : Nat := 2
  q2Idx : Nat := 3
  minValidLen : Nat := 7
  huntThresh : Nat := 7
  accThresh : Nat := 1
  pollQuantumMs : Millis := 100
  ckSource : CkSource := .accumulator
  scratchLen : Nat := 8
  readLen : Nat := 8
deriving DecidableEq, Repr

/-- The parameter set of this hardware: R6 and R7 at their stated values. -/
def params : Params := {}

/-- The inequalities of spec/92_eei_decisions.md (its last paragraph) a parameter set must meet. -/
def Params.wf (p : Params) : Bool :=
  decide (1 ≤ p.ckLo) && decide (p.ckLo ≤ p.ckHi) && decide (p.ckHi < p.ckIdx) && decide (p.ckIdx < p.minValidLen)
    && decide (p.minValidLen ≤ p.frameLen) && decide (p.frameLen ≤ p.scratchLen) && decide (p.scratchLen = p.readLen)
    && decide (p.typeIdx < p.minValidLen) && decide (p.q1Idx < p.minValidLen) && decide (p.q2Idx < p.minValidLen)
    && decide (1 ≤ p.accThresh) && decide (1 ≤ p.huntThresh) && decide (1 ≤ p.pollQuantumMs.toNat)

/-- Free value: what `terr` holds from the start of an operation until a TRANSPORT_FAILURE writes it
(R30: "otherwise it keeps no defined value"), and after `rst`. -/
opaque Config.freeTerr : Nat → TErr

/-- Free value: a byte register `rst` leaves unspecified (R43). -/
opaque Config.freeByte : Nat → Byte

/-- Free value: a buffer `rst` leaves unspecified (R43). -/
opaque Config.freeBuf : Nat → Buf

/-- Free value: the contents of one of the transport's queues after a transaction on it answered `Err`
(43_transport_ops.md R188: the transport's state is then unknown). -/
opaque Config.freeQueue : Nat → List Byte

end Sys2Proof
end

