-- ==== Sys2Proof/Machine/Buffers.lean ====
section
/-! DEFINITION. Reading and writing the eight-byte buffers by index (spec/00_scope.md R8, spec/20_memory.md R60: every
index in every rule is a constant or `acc_len`). -/

namespace Sys2Proof

/-- Byte `i` of a buffer. No rule reads an index above 7; there the function answers 0x00 (notes/assumptions/3.md). -/
def Buf.get (f : Buf) (i : Nat) : Byte :=
  match i with
  | 0 => f.b0
  | 1 => f.b1
  | 2 => f.b2
  | 3 => f.b3
  | 4 => f.b4
  | 5 => f.b5
  | 6 => f.b6
  | 7 => f.b7
  | _ => 0

/-- The buffer with byte `i` written. No rule writes an index above 7; there nothing is written
(notes/assumptions/3.md). -/
def Buf.set (f : Buf) (i : Nat) (v : Byte) : Buf :=
  match i with
  | 0 => { f with b0 := v }
  | 1 => { f with b1 := v }
  | 2 => { f with b2 := v }
  | 3 => { f with b3 := v }
  | 4 => { f with b4 := v }
  | 5 => { f with b5 := v }
  | 6 => { f with b6 := v }
  | 7 => { f with b7 := v }
  | _ => f

/-- The eight bytes, index 0 first: the order on the line (20_memory.md R67). -/
def Buf.toList (f : Buf) : List Byte := [f.b0, f.b1, f.b2, f.b3, f.b4, f.b5, f.b6, f.b7]

/-- The bytes `data[0..n-1]`, oldest first. -/
def Buf.first (f : Buf) (n : Nat) : List Byte := f.toList.take n

/-- `f` with its first `n` bytes taken from `data`, the others as they were (43_transport_ops.md R186). -/
def Buf.overlay (f data : Buf) (n : Nat) : Buf :=
  { b0 := if 0 < n then data.b0 else f.b0
    b1 := if 1 < n then data.b1 else f.b1
    b2 := if 2 < n then data.b2 else f.b2
    b3 := if 3 < n then data.b3 else f.b3
    b4 := if 4 < n then data.b4 else f.b4
    b5 := if 5 < n then data.b5 else f.b5
    b6 := if 6 < n then data.b6 else f.b6
    b7 := if 7 < n then data.b7 else f.b7 }

/-- The buffer whose first bytes are those of a list, padded with 0x00: how the plain transport fills `t_rdata`. -/
def Buf.ofList (bs : List Byte) : Buf :=
  { b0 := bs.getD 0 0
    b1 := bs.getD 1 0
    b2 := bs.getD 2 0
    b3 := bs.getD 3 0
    b4 := bs.getD 4 0
    b5 := bs.getD 5 0
    b6 := bs.getD 6 0
    b7 := bs.getD 7 0 }

end Sys2Proof
end

