-- ==== Sys2Proof/Machine/Ports.lean ====
section
/-! DEFINITION. The names the spec gives to states, phases, error kinds and operations with the codes of
spec/30_encoding.md R98 to R102, and the host, transport and delay ports of spec/10_state.md R34, R41, R42. -/

namespace Sys2Proof

/-- Reader state `rs` (10_state.md R27). -/
inductive ReaderState where
  | idle
  | hunting
  | accumulating
  | validated
  | failed
deriving DecidableEq, Repr, Inhabited

/-- Sequencer phase `ph` (10_state.md R28). -/
inductive Phase where
  | idle
  | sFlushW
  | sWrite
  | rHead
  | rAvail
  | rDelay
  | rRead
  | rFlushR
deriving DecidableEq, Repr, Inhabited

/-- Error kinds, for `err` and `perr` (60_exceptions.md R200). `ackMissingData` is declared and never raised (R204). -/
inductive ErrKind where
  | none
  | transportFailure
  | ackTimeout
  | ackMissingData
  | ackChecksumMismatch
deriving DecidableEq, Repr, Inhabited

/-- Host operation, for `op_kind` (30_encoding.md R101). Code 3 is reserved and never held. -/
inductive HostOp where
  | none
  | send
  | rdack
deriving DecidableEq, Repr, Inhabited

/-- Transport operation (30_encoding.md R102). -/
inductive TOp where
  | remainingRead
  | flushRead
  | flushWrite
  | read
  | write
deriving DecidableEq, Repr, Inhabited

/-- R98: `rs` codes, 3 bits. -/
def ReaderState.code : ReaderState → BitVec 3
  | .idle => 0
  | .hunting => 1
  | .accumulating => 2
  | .validated => 3
  | .failed => 4

/-- R99: `ph` codes, 3 bits. -/
def Phase.code : Phase → BitVec 3
  | .idle => 0
  | .sFlushW => 1
  | .sWrite => 2
  | .rHead => 3
  | .rAvail => 4
  | .rDelay => 5
  | .rRead => 6
  | .rFlushR => 7

/-- R100: `err` and `perr` codes, 3 bits. -/
def ErrKind.code : ErrKind → BitVec 3
  | .none => 0
  | .transportFailure => 1
  | .ackTimeout => 2
  | .ackMissingData => 3
  | .ackChecksumMismatch => 4

/-- R101: `h_op` and `op_kind` codes, 2 bits. -/
def HostOp.code : HostOp → BitVec 2
  | .none => 0
  | .send => 1
  | .rdack => 2

/-- R102: `t_op` codes, 3 bits. -/
def TOp.code : TOp → BitVec 3
  | .remainingRead => 0
  | .flushRead => 1
  | .flushWrite => 2
  | .read => 3
  | .write => 4

/-- R34: the host-port inputs, driven by H. -/
structure HostIn where
  start : Bool := false
  op : BitVec 2 := 0
  code : Byte := 0
  p0 : Byte := 0
  p1 : Byte := 0
  p2 : Byte := 0
  timeout : Millis := 0
deriving DecidableEq, Repr, Inhabited

/-- R41: the transport request, driven by B. -/
structure TReq where
  req : Bool := false
  op : BitVec 3 := 0
  len : BitVec 4 := 0
  timeout : Millis := 0
  wdata : Buf := Buf.zero
deriving DecidableEq, Repr, Inhabited

/-- R41: the transport response, driven by T. `err` = false is `Ok`. -/
structure TRsp where
  rsp : Bool := false
  err : Bool := false
  errval : TErr := 0
  count : Count := 0
  rdata : Buf := Buf.zero
deriving DecidableEq, Repr, Inhabited

/-- R42: the delay port; `req` and `ms` driven by B, `done` by D. `ms` is always POLL_QUANTUM_MS, requested or not. -/
structure DPort where
  req : Bool := false
  ms : Millis := params.pollQuantumMs
  done : Bool := false
deriving DecidableEq, Repr, Inhabited

/-- The reader context in which one received byte is scanned (42_ack_reader.md R150: the action is chosen by
(`rs`, `acc_len`, byte value)): hunting, accumulating with room, accumulator full. -/
inductive ScanCtx where
  | hunting
  | room
  | full
deriving DecidableEq, Repr, Inhabited

/-- What can be presented to the block for execution, one constructor per port or internal call: the block has no
instruction words, so this is what the decoder reads (notes/assumptions/11.md). -/
inductive Request where
  /-- The host port (R34). -/
  | host (h : HostIn)
  /-- The transport port's outstanding request (R41). -/
  | transport (t : TReq)
  /-- The delay port's outstanding request (R42). -/
  | delay (ms : Millis)
  /-- The bytes of one frame, in line order (30_encoding.md R91, R92). -/
  | wire (bytes : List Byte)
  /-- One received byte in the reader's context (42_ack_reader.md R150). -/
  | scan (c : ScanCtx) (b : Byte)
  /-- The internal call of CKSUM (no encoding of its own, 40_frame_codec.md R120). -/
  | cksum (buf : Buf)
  /-- The internal call of BUILD (no encoding of its own, 40_frame_codec.md R123). -/
  | build (code p0 p1 p2 : Byte)
deriving DecidableEq, Repr

end Sys2Proof
end

