-- ==== Sys2Proof/Syntax.lean ====
section
/-! DEFINITION. The syntax: one constructor per row of spec/opcode_table.json, with the operands that row's
"source_fields" give it. -/

namespace Sys2Proof

/-- The operations, scan actions and wire formats of spec/opcode_table.json. -/
inductive Instr where
  /-- CKSUM (40_frame_codec.md R120). -/
  | cksum (buf : Buf)
  /-- BUILD (40_frame_codec.md R123). -/
  | build (code p0 p1 p2 : Byte)
  /-- SEND (41_command_sender.md R130); the timeout is accepted and ignored (R135). -/
  | send (code p0 p1 p2 : Byte) (timeout : Millis)
  /-- RDACK (42_ack_reader.md R140). -/
  | rdack (timeout : Millis)
  /-- CMD, the outgoing frame `00 c a b d 00 k 00` (30_encoding.md R91). -/
  | cmd (c a b d k : Byte)
  /-- ACK, the incoming message `F5 t q r u v k [w]` (30_encoding.md R92); byte 7 may be absent (R107). -/
  | ack (t q r u v k : Byte) (w : Option Byte)
  /-- HUNT_DISCARD (42_ack_reader.md R151). -/
  | huntDiscard (b : Byte)
  /-- HUNT_SYNC (42_ack_reader.md R152); its byte is the marker. -/
  | huntSync
  /-- ACC_APPEND (42_ack_reader.md R153). -/
  | accAppend (b : Byte)
  /-- SURPLUS_DROP (42_ack_reader.md R154). -/
  | surplusDrop (b : Byte)
  /-- REMAINING_READ (43_transport_ops.md R181). -/
  | remainingRead
  /-- FLUSH_READ (43_transport_ops.md R182). -/
  | flushRead
  /-- FLUSH_WRITE (43_transport_ops.md R183). -/
  | flushWrite
  /-- READ (43_transport_ops.md R184): `t_len`, `t_timeout`. -/
  | read (len : BitVec 4) (timeout : Millis)
  /-- WRITE (43_transport_ops.md R187): `t_len`, `t_wdata`. -/
  | write (len : BitVec 4) (data : Buf)
  /-- DELAY (43_transport_ops.md R191): `d_ms`. -/
  | delay (ms : Millis)
deriving DecidableEq, Repr

end Sys2Proof
end

