-- ==== Sys2Proof/WellFormed.lean ====
section
/-! DEFINITION. Which operands the spec says an operation is issued with. A check here never makes the machine stop:
the meanings are total on ill-formed operands too; it says which terms the spec's encodings denote. -/

namespace Sys2Proof

/-- The operand checks, one line per constructor.
CMD: the checksum byte is the XOR of bytes 1 to 5 (R91). ACK: "valid when `k = t ^ q ^ r ^ u ^ v`" (R92).
HUNT_DISCARD: any of the 255 values other than the marker (R151). READ: `len` = 8, timeout never 0 (R147, R184).
WRITE: `t_len` = 8 (R133). DELAY: 100 ms always (R191). -/
def Instr.wellFormed : Instr → Bool
  | .cksum _ => true
  | .build _ _ _ _ => true
  | .send _ _ _ _ _ => true
  | .rdack _ => true
  | .cmd c a b d k => decide (k = c ^^^ a ^^^ b ^^^ d)
  | .ack t q r u v k _ => decide (k = t ^^^ q ^^^ r ^^^ u ^^^ v)
  | .huntDiscard b => decide (b ≠ params.marker)
  | .huntSync => true
  | .accAppend _ => true
  | .surplusDrop _ => true
  | .remainingRead => true
  | .flushRead => true
  | .flushWrite => true
  | .read len timeout => decide (len.toNat = params.readLen) && decide (timeout ≠ 0)
  | .write len _ => decide (len.toNat = params.frameLen)
  | .delay ms => decide (ms = params.pollQuantumMs)

end Sys2Proof
end

