-- ==== Sys2Proof/Decode.lean ====
section
/-! DEFINITION. The decoder: from what a port presents to the operation it names, total, rejecting by name; then the
encoder, from the same tables of spec/30_encoding.md; then the two frame pictures of 64 bits and the opcode table's
words (spec/opcode_table.json). -/

namespace Sys2Proof

/-- Why nothing is decoded. -/
inductive DecodeError where
  /-- `h_start` = 0: nothing is requested (10_state.md R34). -/
  | noStart
  /-- `h_op` = 0: starts nothing (10_state.md R39). -/
  | hostNone
  /-- `h_op` = 3: reserved, starts nothing (10_state.md R39). -/
  | hostReserved
  /-- `t_op` = 5, 6, 7: never issued (30_encoding.md R102). -/
  | transportReserved
  /-- A frame whose byte 0 is neither the marker nor 0x00 (30_encoding.md R91, R92). -/
  | noFrameStart
  /-- A command frame whose reserved byte 5 or 7 is not 0x00 (30_encoding.md R103). -/
  | cmdReserved
  /-- Neither 8 bytes nor a 7-byte acknowledgement (30_encoding.md R90, R107). -/
  | frameLength
deriving DecidableEq, Repr

/-- 30_encoding.md R101: the host port names SEND or RDACK. -/
def decodeHost (h : HostIn) : Except DecodeError Instr :=
  if h.start then
    if h.op = 1 then .ok (.send h.code h.p0 h.p1 h.p2 h.timeout)
    else if h.op = 2 then .ok (.rdack h.timeout)
    else if h.op = 0 then .error .hostNone
    else .error .hostReserved
  else .error .noStart

/-- 30_encoding.md R102: `t_op` names one of the five transport operations. -/
def decodeTransport (t : TReq) : Except DecodeError Instr :=
  if t.op = 0 then .ok .remainingRead
  else if t.op = 1 then .ok .flushRead
  else if t.op = 2 then .ok .flushWrite
  else if t.op = 3 then .ok (.read t.len t.timeout)
  else if t.op = 4 then .ok (.write t.len t.wdata)
  else .error .transportReserved

/-- 42_ack_reader.md R150 to R154: exactly one scan action for each context and byte (30_encoding.md R106). -/
def decodeScan (c : ScanCtx) (b : Byte) : Instr :=
  match c with
  | .hunting => if b = params.marker then .huntSync else .huntDiscard b
  | .room => .accAppend b
  | .full => .surplusDrop b

/-- 30_encoding.md R91, R92, R107: the two wire formats, told apart by byte 0. -/
def decodeWire (bytes : List Byte) : Except DecodeError Instr :=
  match bytes with
  | [x0, x1, x2, x3, x4, x5, x6, x7] =>
    if x0 = params.marker then .ok (.ack x1 x2 x3 x4 x5 x6 (some x7))
    else if x0 = 0 then
      if x5 = 0 ∧ x7 = 0 then .ok (.cmd x1 x2 x3 x4 x6) else .error .cmdReserved
    else .error .noFrameStart
  | [x0, x1, x2, x3, x4, x5, x6] =>
    if x0 = params.marker then .ok (.ack x1 x2 x3 x4 x5 x6 none) else .error .noFrameStart
  | _ => .error .frameLength

/-- The decoder: total on every request. -/
def decode : Request → Except DecodeError Instr
  | .host h => decodeHost h
  | .transport t => decodeTransport t
  | .delay ms => .ok (.delay ms)
  | .wire bytes => decodeWire bytes
  | .scan c b => .ok (decodeScan c b)
  | .cksum buf => .ok (.cksum buf)
  | .build code p0 p1 p2 => .ok (.build code p0 p1 p2)

/-- The encoder: what the port of each operation presents for it. Port fields the operation does not use are 0
(notes/assumptions/14.md). -/
def encode : Instr → Request
  | .cksum buf => .cksum buf
  | .build code p0 p1 p2 => .build code p0 p1 p2
  | .send code p0 p1 p2 timeout =>
    .host { start := true, op := 1, code := code, p0 := p0, p1 := p1, p2 := p2, timeout := timeout }
  | .rdack timeout => .host { start := true, op := 2, timeout := timeout }
  | .cmd c a b d k => .wire [0, c, a, b, d, 0, k, 0]
  | .ack t q r u v k (some w) => .wire [params.marker, t, q, r, u, v, k, w]
  | .ack t q r u v k none => .wire [params.marker, t, q, r, u, v, k]
  | .huntDiscard b => .scan .hunting b
  | .huntSync => .scan .hunting params.marker
  | .accAppend b => .scan .room b
  | .surplusDrop b => .scan .full b
  | .remainingRead => .transport { req := true, op := 0 }
  | .flushRead => .transport { req := true, op := 1 }
  | .flushWrite => .transport { req := true, op := 2 }
  | .read len timeout => .transport { req := true, op := 3, len := len, timeout := timeout }
  | .write len data => .transport { req := true, op := 4, len := len, wdata := data }
  | .delay ms => .delay ms

/-- The 64-bit picture of eight bytes: byte 0 in bits 63 to 56, byte 7 in bits 7 to 0 (30_encoding.md R90). -/
def framePicture (f : Buf) : BitVec 64 :=
  f.b0 ++ f.b1 ++ f.b2 ++ f.b3 ++ f.b4 ++ f.b5 ++ f.b6 ++ f.b7

/-- The eight bytes of a 64-bit picture (30_encoding.md R90). -/
def frameOfPicture (p : BitVec 64) : Buf :=
  { b0 := p.extractLsb' 56 8
    b1 := p.extractLsb' 48 8
    b2 := p.extractLsb' 40 8
    b3 := p.extractLsb' 32 8
    b4 := p.extractLsb' 24 8
    b5 := p.extractLsb' 16 8
    b6 := p.extractLsb' 8 8
    b7 := p.extractLsb' 0 8 }

/-- The request an opcode-table word of at most 8 bits stands for. The rows stand on different ports and share their
bits, so the port is a choice: the host port for `h_op` 1 and 2, then the transport port for `t_op` 0 to 4, then a
byte scanned while HUNTING (notes/assumptions/11.md). -/
def tableByteRequest (w : Nat) : Request :=
  if w = 1 ∨ w = 2 then .host { start := true, op := BitVec.ofNat 2 w }
  else if w < 5 then .transport { req := true, op := BitVec.ofNat 3 w }
  else .scan .hunting (BitVec.ofNat 8 w)

/-- The request an opcode-table word stands for: no bits, the delay port, whose `d_ms`
is always 100 (10_state.md R42); 2 bits, `h_op`; 3 bits, `t_op`; up to a
byte, `tableByteRequest`; 56 or 64 bits, a wire frame with byte 0 leftmost (notes/assumptions/11.md). -/
def tableRequest (nbits w : Nat) : Option Request :=
  if nbits = 0 then some (.delay params.pollQuantumMs)
  else if nbits ≤ 2 then some (.host { start := true, op := BitVec.ofNat 2 w })
  else if nbits = 3 then some (.transport { req := true, op := BitVec.ofNat 3 w })
  else if nbits ≤ 8 then some (tableByteRequest (w % 256))
  else if nbits = 56 then some (.wire ((frameOfPicture (BitVec.ofNat 64 (w * 256))).toList.take 7))
  else if nbits = 64 then some (.wire (frameOfPicture (BitVec.ofNat 64 w)).toList)
  else none

/-- The instruction the decoder reads from an opcode-table word. -/
def decodeTableWord (nbits w : Nat) : Option Instr :=
  match tableRequest nbits w with
  | some r =>
    match decode r with
    | .ok i => some i
    | .error _ => none
  | none => none

end Sys2Proof
end

