-- ==== Sys2Proof/Machine/State.lean ====
section
/-! DEFINITION. The state of the whole system of spec/00_scope.md R5: every element of the block (spec/10_state.md R20),
its ports (R34, R41, R42), the transport's two queues (spec/20_memory.md R61), the schedule of the other agents, and
the model's own fields; the faults and refusals; the state after reset (R43). -/

namespace Sys2Proof.Machine

/-- The decoded acknowledgement (R32): `ack_type`, `ack_q1`, `ack_q2`. -/
structure AckFrame where
  typeReceived : Byte
  q1 : Byte
  q2 : Byte
deriving DecidableEq, Repr, Inhabited

/-- One step of an agent other than the block (00_scope.md R5), in the order of the schedule. -/
inductive EnvStep where
  /-- H drives its inputs (10_state.md R34). -/
  | host (h : HostIn)
  /-- T presents this response to the outstanding request (R41); any response (43_transport_ops.md R189). -/
  | answer (r : TRsp)
  /-- T answers the outstanding request as the plain transport (30_encoding.md R109, 43_transport_ops.md R190). -/
  | answerPlain
  /-- L appends received bytes to `rxq` (20_memory.md R62). -/
  | rx (bytes : List Byte)
  /-- L removes `n` bytes from the head of `txq`: they have been sent (20_memory.md R62). -/
  | sent (n : Nat)
  /-- D completes the outstanding delay (43_transport_ops.md R191). -/
  | delayDone
  /-- A clock edge with `rst` = 1 (70_reset_and_hazards.md R230). -/
  | rst
deriving DecidableEq, Repr

/-- What a trace line of a transport operation says before its arrow (30_encoding.md R109): the operation with its
operands, `READ 8, 1000` or `WRITE [..]`. -/
inductive TCall where
  | remainingRead
  | flushRead
  | flushWrite
  | read (len : BitVec 4) (timeout : Millis)
  | write (data : Buf)
deriving DecidableEq, Repr

/-- One line of a trace (30_encoding.md R109), and the script line that opened the operation. `failed` is a line whose
answer is `err(e)`. -/
inductive TraceLine where
  | send (code p0 p1 p2 : Byte)
  | rdack (timeout : Millis)
  | remainingRead (count : Count)
  | flushRead
  | flushWrite
  | read (len : BitVec 4) (timeout : Millis) (data : List Byte)
  | write (data : Buf) (n : Nat)
  | delay (ms : Millis)
  | failed (call : TCall) (e : TErr)
deriving DecidableEq, Repr

/-- The whole state, plain data. -/
structure State where
  /-- R21: the accumulator. -/
  acc : Buf
  /-- R22: valid bytes in `acc`. -/
  accLen : Nat
  /-- R23: the scratch buffer. -/
  scr : Buf
  /-- R23: bytes the most recent READ returned. -/
  scrN : Nat
  /-- R24: the command frame. -/
  txf : Buf
  /-- R25: bytes the most recent WRITE accepted. -/
  txCount : Nat
  /-- R26: remaining timeout in milliseconds. -/
  budget : Millis
  /-- R27: reader state. -/
  rs : ReaderState
  /-- R28: sequencer phase. -/
  ph : Phase
  /-- R29: error kind waiting for the failure-path flush. -/
  perr : ErrKind
  /-- R30: error kind of the most recently completed operation. -/
  err : ErrKind
  /-- R30: the transport's error value. -/
  terr : TErr
  /-- R31. -/
  busy : Bool
  /-- R31. -/
  done : Bool
  /-- R32: `ack_valid` and the three result bytes, which have no value while it is 0 (notes/assumptions/4.md). -/
  ack : Option AckFrame
  /-- R40: latched operands of SEND. -/
  opCode : Byte
  opP0 : Byte
  opP1 : Byte
  opP2 : Byte
  /-- R20: which operation is in progress or was last completed. -/
  opKind : HostOp
  /-- R34: host-port inputs. -/
  host : HostIn
  /-- R41: transport request. -/
  treq : TReq
  /-- R41: transport response. -/
  trsp : TRsp
  /-- R42: delay port. -/
  dly : DPort
  /-- 20_memory.md R61: bytes buffered for reading, oldest first. -/
  rxq : List Byte
  /-- 20_memory.md R61: bytes queued and unsent, oldest first. -/
  txq : List Byte
  /-- The model's own: the parameter CK_SOURCE as a strap (notes/assumptions/5.md). -/
  ckSource : CkSource
  /-- The model's own: the result of the last CKSUM run on its own (notes/assumptions/6.md). -/
  ckOut : Byte
  /-- The model's own: what H, T, L, D and reset do next (notes/assumptions/1.md). -/
  env : List EnvStep
  /-- The model's own: an internal invocation, placed by `withFetchWord` only (notes/assumptions/7.md). -/
  direct : Option Request
  /-- The model's own: the counter of free values (notes/assumptions/8.md). -/
  fresh : Nat
  /-- The model's own: trace of the current or last operation, newest line first (notes/assumptions/9.md). -/
  trace : List TraceLine
deriving DecidableEq, Repr

/-- Why the machine stops with a fault. -/
inductive Fault where
  /-- Raised by the step when a presented transport request holds `t_op` 5, 6 or 7 (93_implementation_defined.md U11:
  "`fault` if a model ever holds one"). Safe: the block never issues one. -/
  | reservedTransportOp
  /-- Raised by the step when bytes placed as one wire frame are neither format (30_encoding.md R91, R92). Safe: only
  `withFetchWord` places them. -/
  | notAFrame
deriving DecidableEq, Repr

/-- Why an instruction is given no meaning. -/
inductive Refusal where
  /-- Raised by an arm of `exec` whose instruction has no meaning yet. Safe: nothing runs. -/
  | notModelled (mnemonic : String)
  /-- Raised by READ and WRITE when the transport answers more bytes than were asked for or offered
  (93_implementation_defined.md U17: "`refuse`: outside the oracle's range; the model has no step"). Safe. -/
  | answerOutOfRange
deriving DecidableEq, Repr

/-- The state after reset: R43 and R230 where they give a value, the values of notes/assumptions/2.md where they say
"unspecified"; no agent has anything scheduled. -/
def State.reset : State where
  acc := Buf.zero
  accLen := 0
  scr := Buf.zero
  scrN := 0
  txf := Buf.zero
  txCount := 0
  budget := 0
  rs := .idle
  ph := .idle
  perr := .none
  err := .none
  terr := 0
  busy := false
  done := false
  ack := none
  opCode := 0
  opP0 := 0
  opP1 := 0
  opP2 := 0
  opKind := .none
  host := {}
  treq := {}
  trsp := {}
  dly := {}
  rxq := []
  txq := []
  ckSource := params.ckSource
  ckOut := 0
  env := []
  direct := none
  fresh := 0
  trace := []

end Sys2Proof.Machine
end

