-- ==== Sys2Proof/Machine/Ops.lean ====
section
/-! DEFINITION. The named operations over the state: the codec (spec/40_frame_codec.md), issuing and answering a
transaction, the transport's effects (spec/20_memory.md R63 to R66), the quantum, the loop head, the scan actions,
failing (spec/60_exceptions.md R207 to R210) and returning. Flag writes are in Flags.lean, operand forms in
Operands.lean. -/

namespace Sys2Proof.Machine

/-! ## The codec -/

/-- 40_frame_codec.md R120: XOR of the bytes `CK_LO` to `CK_HI`. -/
def cksum (f : Buf) : Byte :=
  (List.range (params.ckHi + 1 - params.ckLo)).foldl (fun x i => x ^^^ f.get (params.ckLo + i)) 0

/-- 40_frame_codec.md R123: the frame with the operands in place and no checksum yet. -/
def frameBody (code p0 p1 p2 : Byte) : Buf :=
  (((Buf.zero.set params.cmdIdx code).set params.paramIdx0 p0).set (params.paramIdx0 + 1) p1).set
    (params.paramIdx0 + 2) p2

/-- 40_frame_codec.md R123: the command frame, its checksum computed after the operands are in place. -/
def buildFrame (code p0 p1 p2 : Byte) : Buf :=
  (frameBody code p0 p1 p2).set params.ckIdx (cksum (frameBody code p0 p1 p2))

/-- 42_ack_reader.md R159: the fields of a message. -/
def decodeAck (f : Buf) : AckFrame :=
  { typeReceived := f.get params.typeIdx, q1 := f.get params.q1Idx, q2 := f.get params.q2Idx }

/-- 00_scope.md R9: unsigned subtraction with saturation at 0. -/
def satsub (a b : Millis) : Millis := if b ≤ a then a - b else 0

/-! ## Transactions -/

/-- 10_state.md R41: present one request and wait in phase `ph` for its answer. The response's other fields keep what
they held (DESIGN CHOICE, unsafe; notes/assumptions/19.md). -/
def issue (ph : Phase) (op : TOp) (len : BitVec 4) (timeout : Millis) (wdata : Buf) (s : State) : State :=
  { s with
    ph := ph
    treq := { req := true, op := op.code, len := len, timeout := timeout, wdata := wdata }
    trsp := { s.trsp with rsp := false } }

/-- The answer has been taken: no request is outstanding and no response presented (10_state.md R41). The spec gives the
port's other fields no value outside a request; here they keep what they held (DESIGN CHOICE, unsafe;
notes/assumptions/19.md). -/
def takeAnswer (s : State) : State :=
  { s with treq := { s.treq with req := false }, trsp := { s.trsp with rsp := false } }

/-- The delay has completed (10_state.md R42). `d_ms` is not written: it is always 100. -/
def takeDelay (s : State) : State :=
  { s with dly := { s.dly with req := false, done := false } }

/-- Add a line to the trace (30_encoding.md R109). -/
def record (l : TraceLine) (s : State) : State := { s with trace := l :: s.trace }

/-- 43_transport_ops.md R180: an operation that is not answered leaves the block waiting; its one answer is taken and
handled by `k`. -/
def onAnswer (s : State) (k : State → Host.Outcome State Fault Refusal) : Host.Outcome State Fault Refusal :=
  if s.trsp.rsp then k (takeAnswer s) else .next s

/-! ## The transport's effects -/

/-- 20_memory.md R64: READ removes the `n` oldest bytes. The spec does not say what an answer that breaks T_FIFO leaves
(more bytes than `rxq` holds, or bytes that are not its head; 43_transport_ops.md R189 admits it): here `min(n, |rxq|)`
bytes leave the head, whatever bytes were answered (DESIGN CHOICE, unsafe; notes/assumptions/20.md). -/
def popRx (n : Nat) (s : State) : State := { s with rxq := s.rxq.drop n }

/-- 20_memory.md R65: FLUSH_READ empties `rxq`. -/
def clearRx (s : State) : State := { s with rxq := [] }

/-- 20_memory.md R65: FLUSH_WRITE empties `txq`. -/
def clearTx (s : State) : State := { s with txq := [] }

/-- 20_memory.md R62: received bytes join the tail of `rxq`. -/
def pushRx (bytes : List Byte) (s : State) : State := { s with rxq := s.rxq ++ bytes }

/-- 20_memory.md R66: accepted bytes join the tail of `txq` in index order. -/
def pushTx (bytes : List Byte) (s : State) : State := { s with txq := s.txq ++ bytes }

/-- 43_transport_ops.md R188: after an `Err` on the read side `rxq` is unknown. -/
def loseRx (s : State) : State := { s with rxq := Config.freeQueue s.fresh, fresh := s.fresh + 1 }

/-- 43_transport_ops.md R188: after an `Err` on the write side `txq` is unknown. -/
def loseTx (s : State) : State := { s with txq := Config.freeQueue s.fresh, fresh := s.fresh + 1 }

/-! ## Completion, failure and return -/

/-- 10_state.md R37: the completion step common to every outcome. -/
def complete (kind : ErrKind) (s : State) : State :=
  { s with err := kind, ph := .idle, busy := false, done := true }

/-- 60_exceptions.md R209 and R208's last line: `rs` becomes FAILED when the operation is an RDACK; a SEND leaves it. -/
def markFailed (s : State) : State :=
  { s with rs := if s.opKind = .rdack then .failed else s.rs }

/-- 60_exceptions.md R207: the operation ends with kind `kind`. -/
def fail (kind : ErrKind) (s : State) : State := complete kind (markFailed s)

/-- 60_exceptions.md R209, R210: TRANSPORT_FAILURE with the transport's value copied unchanged. -/
def failTransport (e : TErr) (s : State) : State := fail .transportFailure { s with terr := e }

/-- 60_exceptions.md R208: entry with flush. The kind waits in `perr` while FLUSH_READ is outstanding. -/
def failFlush (kind : ErrKind) (s : State) : State :=
  issue .rFlushR .flushRead 0 0 Buf.zero { s with perr := kind }

/-- 42_ack_reader.md R159: success of an RDACK. -/
def succeedAck (s : State) : State :=
  complete .none { s with ack := some (decodeAck s.acc), rs := .validated }

/-! ## The reader's loop -/

/-- 42_ack_reader.md R143, R160: the loop head. -/
def loopHead (s : State) : State :=
  if s.budget = 0 then failFlush .ackTimeout s
  else issue .rAvail .remainingRead 0 0 Buf.zero s

/-- 42_ack_reader.md R146, R155: one quantum leaves the budget, then one delay is requested. -/
def consumeQuantum (s : State) : State :=
  { s with
    budget := satsub s.budget params.pollQuantumMs
    ph := .rDelay
    dly := { req := true, ms := params.pollQuantumMs, done := false } }

/-- 10_state.md R23: "reset the scratch buffer". -/
def resetScratch (s : State) : State := { s with scr := Buf.zero, scrN := 0 }

/-- 42_ack_reader.md R147: the bounded read with the remaining budget as its timeout. -/
def issueRead (s : State) : State :=
  issue .rRead .read (BitVec.ofNat 4 params.readLen) s.budget Buf.zero s

/-- 42_ack_reader.md R149: store the chunk. -/
def storeChunk (n : Nat) (data : Buf) (s : State) : State :=
  { s with scr := s.scr.overlay data n, scrN := n }

/-! ## The scan actions -/

/-- 42_ack_reader.md R151: the byte is dropped. -/
def huntDiscard (s : State) : State := s

/-- 42_ack_reader.md R152: the marker is stored and accumulation begins. -/
def huntSync (s : State) : State :=
  { s with rs := .accumulating, acc := s.acc.set 0 params.marker, accLen := 1 }

/-- 42_ack_reader.md R153: append one byte. -/
def accAppend (b : Byte) (s : State) : State :=
  { s with acc := s.acc.set s.accLen b, accLen := s.accLen + 1 }

/-- 42_ack_reader.md R154: the byte is dropped, the accumulator being full. -/
def surplusDrop (s : State) : State := s

/-- 42_ack_reader.md R150: the one scan action that applies to byte `b`, in R141's order of tests. -/
def scanByte (s : State) (b : Byte) : State :=
  if s.accLen = params.frameLen then surplusDrop s
  else if s.rs = .hunting then
    if b = params.marker then huntSync s else huntDiscard s
  else accAppend b s

/-- 42_ack_reader.md R150: the bytes of a chunk in order. Once the accumulator is full every later byte is dropped, so
visiting them changes nothing (R154). -/
def scanBytes (bytes : List Byte) (s : State) : State := bytes.foldl scanByte s

/-- 42_ack_reader.md R150: scan `scr[0]` to `scr[scr_n - 1]`. -/
def scanChunk (s : State) : State := scanBytes (s.scr.first s.scrN) s

/-! ## Reset -/

/-- 70_reset_and_hazards.md R230, R231: a clock edge with `rst` = 1. What R43 leaves unspecified takes free values; the
outstanding transaction or delay is orphaned; the host's inputs and the transport's queues are not touched (R233). The
fields of the transport port other than `t_req` and `t_rsp` keep what they held: the spec gives them no value outside a
request (DESIGN CHOICE, unsafe; notes/assumptions/19.md). `d_ms` is always 100 (R42). -/
def resetEdge (s : State) : State :=
  { s with
    ph := .idle
    rs := .idle
    busy := false
    done := false
    err := .none
    perr := .none
    opKind := .none
    ack := none
    accLen := 0
    scrN := 0
    txCount := 0
    budget := 0
    acc := Config.freeBuf s.fresh
    scr := Config.freeBuf (s.fresh + 1)
    txf := Config.freeBuf (s.fresh + 2)
    terr := Config.freeTerr s.fresh
    opCode := Config.freeByte s.fresh
    opP0 := Config.freeByte (s.fresh + 1)
    opP1 := Config.freeByte (s.fresh + 2)
    opP2 := Config.freeByte (s.fresh + 3)
    treq := { s.treq with req := false }
    trsp := { s.trsp with rsp := false }
    dly := { s.dly with req := false, done := false }
    fresh := s.fresh + 4
    trace := [] }

end Sys2Proof.Machine
end

