-- ==== Sys2Proof/Machine/Operands.lean ====
section
/-! DEFINITION. Operand forms: what each operation reads from the ports and the reader's state, and which answers are in
range (spec/42_ack_reader.md, spec/43_transport_ops.md). -/

namespace Sys2Proof.Machine

/-- 42_ack_reader.md R145: bytes that must be available before a READ. -/
def threshold (s : State) : Nat :=
  if s.rs = .hunting then params.huntThresh else params.accThresh

/-- 42_ack_reader.md R150: the context in which the next byte is scanned. -/
def scanCtx (s : State) : ScanCtx :=
  if s.accLen = params.frameLen then .full else if s.rs = .hunting then .hunting else .room

/-- 42_ack_reader.md R156, R157: the buffer the checksum is computed over. -/
def checksumSource (s : State) : Buf :=
  match s.ckSource with
  | .accumulator => s.acc
  | .lastChunk => s.scr

/-- The number a READ or WRITE answer carries in `t_count` (10_state.md R41). -/
def answerCount (s : State) : Nat := s.trsp.count.toNat

/-- 00_scope.md R11, 43_transport_ops.md R184, R187: `n` is at most what was asked for, and at most 8. -/
def countInRange (len : BitVec 4) (s : State) : Bool :=
  decide (answerCount s ≤ len.toNat) && decide (answerCount s ≤ params.scratchLen)

/-- The bytes a READ answer carries: `t_rdata` below `n` (10_state.md R41). -/
def answerBytes (s : State) : List Byte := s.trsp.rdata.first (answerCount s)

/-- What the plain transport answers to the outstanding request (30_encoding.md R109, 43_transport_ops.md R190):
REMAINING_READ the buffered count, saturating (R181); READ the oldest `min(len, |rxq|)` bytes; WRITE all it is
offered; flushes ok; nothing fails. `rxq` is measured when the answer is presented, a moment the spec leaves open
(DESIGN CHOICE, unsafe; notes/assumptions/22.md). The response fields its answer does not use (`t_errval`; `t_count` of a
flush; `t_rdata` at and above `n`, and of every operation but READ) have no value in the spec (10_state.md R41, 93 U18);
here they are 0 (DESIGN CHOICE, unsafe; notes/assumptions/21.md). -/
def plainAnswer (s : State) : TRsp :=
  if s.treq.op = TOp.remainingRead.code then
    { rsp := true, count := BitVec.ofNat 16 (min s.rxq.length 65535) }
  else if s.treq.op = TOp.read.code then
    { rsp := true
      count := BitVec.ofNat 16 (min s.treq.len.toNat s.rxq.length)
      rdata := Buf.ofList (s.rxq.take s.treq.len.toNat) }
  else if s.treq.op = TOp.write.code then
    { rsp := true, count := s.treq.len.zeroExtend 16 }
  else { rsp := true }

end Sys2Proof.Machine
end

