-- ==== Sys2Proof/Machine/Flags.lean ====
section
/-! DEFINITION. The flags and results: what a start writes (spec/10_state.md R36, R31), and the host-port outputs under
their "valid when" column (R35). -/

namespace Sys2Proof.Machine

/-- 10_state.md R36: the flag writes of a start, common to SEND and RDACK. `err` is written with NONE, so `terr` keeps
no defined value from here on (R30): it takes a free value. `line` opens the operation's trace. -/
def startFlags (kind : HostOp) (line : TraceLine) (s : State) : State :=
  { s with
    opKind := kind
    busy := true
    done := false
    err := .none
    terr := Config.freeTerr s.fresh
    fresh := s.fresh + 1
    trace := [line] }

/-- 10_state.md R32: `ack_valid`. -/
def ackValid (s : State) : Bool := s.ack.isSome

/-- 42_ack_reader.md R158: the checksum comparison. -/
def checksumOk (s : State) : Bool := decide (s.acc.get params.ckIdx = cksum (checksumSource s))

/-- The host-port outputs (10_state.md R35); `none` outside the field's "valid when" column (70 R247). -/
structure HostOut where
  busy : Bool
  done : Bool
  opKind : Option (BitVec 2)
  err : Option (BitVec 3)
  terr : Option TErr
  rs : BitVec 3
  ackValid : Bool
  ackType : Option Byte
  ackQ1 : Option Byte
  ackQ2 : Option Byte
  txCount : Option Nat
deriving DecidableEq, Repr

/-- 10_state.md R35: the outputs the host may rely on. -/
def hostOut (s : State) : HostOut :=
  { busy := s.busy
    done := s.done
    opKind := if s.done || s.busy then some s.opKind.code else none
    err := if s.done then some s.err.code else none
    terr := if s.done && decide (s.err = .transportFailure) then some s.terr else none
    rs := s.rs.code
    ackValid := ackValid s
    ackType := s.ack.map (·.typeReceived)
    ackQ1 := s.ack.map (·.q1)
    ackQ2 := s.ack.map (·.q2)
    txCount := if s.done && decide (s.opKind = .send) && decide (s.err = .none) then some s.txCount else none }

end Sys2Proof.Machine
end

