-- ==== Sys2Proof/Machine/Codec.lean ====
section
/-! DEFINITION. The frame codec as operations: CKSUM and BUILD (spec/40_frame_codec.md). -/

namespace Sys2Proof.Machine

/-- CKSUM (R120): a pure function of its operand; its result has no home in the block, so it goes to `ckOut`
(notes/assumptions/6.md). -/
def execCksum (buf : Buf) (s : State) : Host.Outcome State Fault Refusal :=
  .next { s with ckOut := cksum buf }

/-- BUILD (R123): writes all eight bytes of `txf` and nothing else. -/
def execBuild (code p0 p1 p2 : Byte) (s : State) : Host.Outcome State Fault Refusal :=
  .next { s with txf := buildFrame code p0 p1 p2 }

end Sys2Proof.Machine
end

