-- ==== Sys2Proof/Machine/Delay.lean ====
section
/-! DEFINITION. DELAY (spec/43_transport_ops.md R191). -/

namespace Sys2Proof.Machine

/-- DELAY: an incomplete delay leaves the block waiting; a completed one has no effect but that a waiting reader takes
the loop head (42_ack_reader.md R146). -/
def execDelay (ms : Millis) (s : State) : Host.Outcome State Fault Refusal :=
  if s.dly.done then
    let s := record (.delay ms) (takeDelay s)
    .next (if s.ph = .rDelay then loopHead s else s)
  else .next s

end Sys2Proof.Machine
end

