-- ==== Sys2Proof/Machine/Reader.lean ====
section
/-! DEFINITION. RDACK's start step and what the reader does with a chunk (spec/42_ack_reader.md R142, R148 to R159). The
rest of RDACK is what the block does with the answers to its transactions and delays (Transport.lean, Delay.lean). -/

namespace Sys2Proof.Machine

/-- R142: the reader's initialisation; the accumulator bytes are not cleared. -/
def initReader (timeout : Millis) (s : State) : State :=
  { s with
    rs := .hunting
    accLen := 0
    budget := timeout
    scr := Buf.zero
    scrN := 0
    ack := none
    perr := .none }

/-- RDACK: a start while busy is ignored (10_state.md R38); otherwise raise the flags, initialise and take the loop head
in the same step (10_state.md R28: PH_R_HEAD is left in the step that enters it). -/
def execRdack (timeout : Millis) (s : State) : Host.Outcome State Fault Refusal :=
  if s.busy then .next s
  else .next (loopHead (initReader timeout (startFlags .rdack (.rdack timeout) s)))

/-- R155, R156 to R159: the end of a scan: a short iteration, success, or a mismatch (60_exceptions.md R206 checks 6
to 8). -/
def afterScan (s : State) : State :=
  if s.accLen < params.minValidLen then consumeQuantum (resetScratch s)
  else if checksumOk s then succeedAck s
  else failFlush .ackChecksumMismatch s

/-- R148, R149: what a waiting reader does with the `n` bytes of a READ (60_exceptions.md R206 check 5 on). -/
def onChunk (n : Nat) (data : Buf) (s : State) : State :=
  if n = 0 then failFlush .ackTimeout s
  else afterScan (scanChunk (storeChunk n data s))

end Sys2Proof.Machine
end

