-- ==== Sys2Proof/Machine/Scan.lean ====
section
/-! DEFINITION. The four scan actions as operations on one byte (spec/42_ack_reader.md R151 to R154). An action is
performed when it is the one that applies (R150); where another applies, or none, it is not performed and nothing
changes (notes/assumptions/17.md). -/

namespace Sys2Proof.Machine

/-- HUNT_DISCARD (R151): applies when `rs` = HUNTING and the byte is not the marker; the byte is dropped. -/
def execHuntDiscard (b : Byte) (s : State) : Host.Outcome State Fault Refusal :=
  .next (if scanCtx s = .hunting ∧ b ≠ params.marker then huntDiscard s else s)

/-- HUNT_SYNC (R152): applies when `rs` = HUNTING and the byte is the marker. -/
def execHuntSync (s : State) : Host.Outcome State Fault Refusal :=
  .next (if scanCtx s = .hunting then huntSync s else s)

/-- ACC_APPEND (R153): applies when `rs` = ACCUMULATING and `acc_len` < 8. -/
def execAccAppend (b : Byte) (s : State) : Host.Outcome State Fault Refusal :=
  .next (if s.rs = .accumulating ∧ s.accLen < params.frameLen then accAppend b s else s)

/-- SURPLUS_DROP (R154): applies when `acc_len` = 8; the byte is not examined and dropped. -/
def execSurplusDrop (_b : Byte) (s : State) : Host.Outcome State Fault Refusal :=
  .next (if scanCtx s = .full then surplusDrop s else s)

end Sys2Proof.Machine
end

