-- ==== Sys2Proof/Machine/Sender.lean ====
section
/-! DEFINITION. SEND's start step (spec/41_command_sender.md R130, R131; spec/10_state.md R36, R38, R40). The rest of
SEND is what the block does with the answers to FLUSH_WRITE and WRITE (Transport.lean). -/

namespace Sys2Proof.Machine

/-- 10_state.md R40: the operands are sampled once, at the start. -/
def latchCommand (code p0 p1 p2 : Byte) (s : State) : State :=
  { s with opCode := code, opP0 := p0, opP1 := p1, opP2 := p2 }

/-- SEND: a start while busy is ignored (R38); otherwise latch, raise the flags and issue FLUSH_WRITE (R131). The
timeout operand is accepted and ignored (R135). -/
def execSend (code p0 p1 p2 : Byte) (_timeout : Millis) (s : State) : Host.Outcome State Fault Refusal :=
  if s.busy then .next s
  else
    .next (issue .sFlushW .flushWrite 0 0 Buf.zero
      (startFlags .send (.send code p0 p1 p2) (latchCommand code p0 p1 p2 s)))

end Sys2Proof.Machine
end

