-- ==== Sys2Proof/Machine/Transport.lean ====
section
/-! DEFINITION. The five transport operations (spec/43_transport_ops.md R180 to R189): each waits for its one answer,
has its effect on the transport's queues, and hands the answer to the block if the block is in the phase that waits for
it. An answer nothing waits for is ignored (spec/93_implementation_defined.md U32; notes/assumptions/18.md). -/

namespace Sys2Proof.Machine

/-- REMAINING_READ (R181): no effect on the queues. Block's use: 42_ack_reader.md R144 to R147, R161. -/
def execRemainingRead (s : State) : Host.Outcome State Fault Refusal :=
  onAnswer s fun s =>
    if s.trsp.err then
      let s := record (.failed .remainingRead s.trsp.errval) s
      .next (if s.ph = .rAvail then failTransport s.trsp.errval s else s)
    else
      let s := record (.remainingRead s.trsp.count) s
      .next
        (if s.ph = .rAvail then
          if answerCount s < threshold s then consumeQuantum s else issueRead s
        else s)

/-- FLUSH_READ (R182): empties `rxq`. Block's use: 60_exceptions.md R208, R210. -/
def execFlushRead (s : State) : Host.Outcome State Fault Refusal :=
  onAnswer s fun s =>
    if s.trsp.err then
      let s := loseRx (record (.failed .flushRead s.trsp.errval) s)
      .next (if s.ph = .rFlushR then failTransport s.trsp.errval s else s)
    else
      let s := clearRx (record .flushRead s)
      .next (if s.ph = .rFlushR then fail s.perr s else s)

/-- FLUSH_WRITE (R183): empties `txq`. Block's use: 41_command_sender.md R131 to R133, R136. -/
def execFlushWrite (s : State) : Host.Outcome State Fault Refusal :=
  onAnswer s fun s =>
    if s.trsp.err then
      let s := loseTx (record (.failed .flushWrite s.trsp.errval) s)
      .next (if s.ph = .sFlushW then failTransport s.trsp.errval s else s)
    else
      let s := clearTx (record .flushWrite s)
      .next
        (if s.ph = .sFlushW then
          let frame := buildFrame s.opCode s.opP0 s.opP1 s.opP2
          issue .sWrite .write (BitVec.ofNat 4 params.frameLen) 0 frame { s with txf := frame }
        else s)

/-- READ (R184 to R186): removes the `n` oldest bytes of `rxq`. Block's use: 42_ack_reader.md R148 to R159, R161. An
answer with more than `len` bytes is outside the contract (R184; 93 U17). -/
def execRead (len : BitVec 4) (timeout : Millis) (s : State) : Host.Outcome State Fault Refusal :=
  onAnswer s fun s =>
    if s.trsp.err then
      let s := loseRx (record (.failed (.read len timeout) s.trsp.errval) s)
      .next (if s.ph = .rRead then failTransport s.trsp.errval s else s)
    else if countInRange len s then
      let s := popRx (answerCount s) (record (.read len timeout (answerBytes s)) s)
      .next (if s.ph = .rRead then onChunk (answerCount s) s.trsp.rdata s else s)
    else .refused .answerOutOfRange

/-- WRITE (R187): appends the first `n` bytes to `txq`. Block's use: 41_command_sender.md R134 to R136. -/
def execWrite (len : BitVec 4) (data : Buf) (s : State) : Host.Outcome State Fault Refusal :=
  onAnswer s fun s =>
    if s.trsp.err then
      let s := loseTx (record (.failed (.write data) s.trsp.errval) s)
      .next (if s.ph = .sWrite then failTransport s.trsp.errval s else s)
    else if countInRange len s then
      let s := pushTx (data.first (answerCount s)) (record (.write data (answerCount s)) s)
      .next (if s.ph = .sWrite then complete .none { s with txCount := answerCount s } else s)
    else .refused .answerOutOfRange

end Sys2Proof.Machine
end

