-- ==== Sys2Proof/Machine/Wire.lean ====
section
/-! DEFINITION. The two wire formats as operations (spec/30_encoding.md R91, R92): a command frame joins the outbound
queue whole, an acknowledgement message is received whole, index 0 first (spec/20_memory.md R67;
notes/assumptions/10.md). -/

namespace Sys2Proof.Machine

/-- R91: the eight bytes of a command frame, in line order. -/
def cmdBytes (c a b d k : Byte) : List Byte := [0, c, a, b, d, 0, k, 0]

/-- R92, R107: the seven or eight bytes of an acknowledgement message, in line order. -/
def ackBytes (t q r u v k : Byte) (w : Option Byte) : List Byte :=
  [params.marker, t, q, r, u, v, k] ++ w.toList

/-- CMD (R91). -/
def execCmd (c a b d k : Byte) (s : State) : Host.Outcome State Fault Refusal :=
  .next (pushTx (cmdBytes c a b d k) s)

/-- ACK (R92): L appends the bytes to `rxq` (20_memory.md R62). -/
def execAck (t q r u v k : Byte) (w : Option Byte) (s : State) : Host.Outcome State Fault Refusal :=
  .next (pushRx (ackBytes t q r u v k w) s)

end Sys2Proof.Machine
end

