-- ==== Sys2Proof/Machine/Dispatch.lean ====
section
/-! DEFINITION. One arm per constructor of Instr, each one direct call of its meaning. -/

namespace Sys2Proof.Machine

def exec (i : Instr) (s : State) : Host.Outcome State Fault Refusal :=
  match i with
  | .cksum buf => Sys2Proof.Machine.execCksum buf s
  | .build code p0 p1 p2 => Sys2Proof.Machine.execBuild code p0 p1 p2 s
  | .send code p0 p1 p2 timeout => Sys2Proof.Machine.execSend code p0 p1 p2 timeout s
  | .rdack timeout => Sys2Proof.Machine.execRdack timeout s
  | .cmd c a b d k => Sys2Proof.Machine.execCmd c a b d k s
  | .ack t q r u v k w => Sys2Proof.Machine.execAck t q r u v k w s
  | .huntDiscard b => Sys2Proof.Machine.execHuntDiscard b s
  | .huntSync => Sys2Proof.Machine.execHuntSync s
  | .accAppend b => Sys2Proof.Machine.execAccAppend b s
  | .surplusDrop b => Sys2Proof.Machine.execSurplusDrop b s
  | .remainingRead => Sys2Proof.Machine.execRemainingRead s
  | .flushRead => Sys2Proof.Machine.execFlushRead s
  | .flushWrite => Sys2Proof.Machine.execFlushWrite s
  | .read len timeout => Sys2Proof.Machine.execRead len timeout s
  | .write len data => Sys2Proof.Machine.execWrite len data s
  | .delay ms => Sys2Proof.Machine.execDelay ms s

end Sys2Proof.Machine
end

