-- ==== Sys2Proof/Machine/Fetch.lean ====
section
/-! DEFINITION. Who moves next and what the block runs: the block has no program counter and fetches from its ports
(spec/10_state.md R27); the other agents move by the schedule (spec/00_scope.md R5; notes/assumptions/1.md). -/

namespace Sys2Proof.Machine

/-- What is presented to the block now: an internal invocation; an answered transaction (10_state.md R41); a completed
delay (R42); a start while not busy (R36, R38). -/
def pending (s : State) : Option Request :=
  match s.direct with
  | some r => some r
  | none =>
    if s.treq.req && s.trsp.rsp then some (.transport s.treq)
    else if s.dly.req && s.dly.done then some (.delay s.dly.ms)
    else if s.host.start && !s.busy then some (.host s.host)
    else none

/-- The effect of one scheduled step of H, T, L, D or reset. A response or a delay completion nothing waits for is
dropped (93_implementation_defined.md U32). -/
def applyEnv (e : EnvStep) (s : State) : State :=
  match e with
  | .host h => { s with host := h }
  | .answer r => if s.treq.req then { s with trsp := { r with rsp := true } } else s
  | .answerPlain => if s.treq.req then { s with trsp := plainAnswer s } else s
  | .rx bytes => pushRx bytes s
  | .sent n => { s with txq := s.txq.drop n }
  | .delayDone => if s.dly.req then { s with dly := { s.dly with done := true } } else s
  | .rst => resetEdge s

/-- The other agents' turn: the head of the schedule; with nothing scheduled nothing changes (the block waits,
60_exceptions.md R221). -/
def moveEnv (s : State) : State :=
  match s.env with
  | [] => s
  | e :: rest => applyEnv e { s with env := rest }

/-- Nothing is presented to the block: a state in PH_R_HEAD takes the loop head (10_state.md R28;
notes/assumptions/16.md), otherwise the other agents move. -/
def noRequest (s : State) : State :=
  if s.ph = .rHead then loopHead s else moveEnv s

/-- What is presented names no operation: a host request with `h_op` 0 or 3 starts nothing (10_state.md R39); a reserved
`t_op` or bytes that are no frame fault. -/
def onUndecoded (e : DecodeError) (s : State) : Host.Outcome State Fault Refusal :=
  match e with
  | .noStart => .next (noRequest s)
  | .hostNone => .next (noRequest s)
  | .hostReserved => .next (noRequest s)
  | .transportReserved => .fault .reservedTransportOp
  | .noFrameStart => .fault .notAFrame
  | .cmdReserved => .fault .notAFrame
  | .frameLength => .fault .notAFrame

/-- One step of the system: the block runs what is presented to it, otherwise the other agents move. -/
def cycle (s : State) : Host.Outcome State Fault Refusal :=
  match pending s with
  | none => .next (noRequest s)
  | some r =>
    match decode r with
    | .ok i => exec i { s with direct := none }
    | .error e => onUndecoded e s

/-- The phase in which a transport operation is outstanding (10_state.md R28). -/
def phaseOfOp (op : BitVec 3) : Phase :=
  if op = TOp.remainingRead.code then .rAvail
  else if op = TOp.flushRead.code then .rFlushR
  else if op = TOp.flushWrite.code then .sFlushW
  else if op = TOp.read.code then .rRead
  else if op = TOp.write.code then .sWrite
  else .idle

/-- `s` with the reader inside an RDACK: `rs` is HUNTING or ACCUMULATING (42_ack_reader.md R165). -/
def insideReader (s : State) : State :=
  if s.rs = .hunting ∨ s.rs = .accumulating then s else { s with rs := .hunting, accLen := 0 }

/-- `s` with the reader in a given scanning context. -/
def inScanCtx (c : ScanCtx) (s : State) : State :=
  match c with
  | .hunting => { s with rs := .hunting, accLen := 0 }
  | .room => { s with rs := .accumulating, accLen := 1 }
  | .full => { s with rs := .accumulating, accLen := params.frameLen }

/-- `s` with a request placed where the next step finds it (notes/assumptions/7.md, notes/assumptions/11.md): on the host
port of an idle block; on the transport or delay port of a block that waits for it, answered (`Ok`, count 0, no bytes;
the unused response fields 0, notes/assumptions/21.md; done); or as an internal invocation. -/
def placeRequest (r : Request) (s : State) : State :=
  match r with
  | .host h =>
    { s with
      direct := none, host := h, busy := false, ph := .idle
      treq := { s.treq with req := false }, dly := { s.dly with req := false } }
  | .transport t =>
    insideReader
      { s with
        direct := none, treq := t, trsp := { rsp := true }, dly := { s.dly with req := false }
        busy := true, ph := phaseOfOp t.op
        opKind := if t.op = TOp.flushWrite.code ∨ t.op = TOp.write.code then .send else .rdack }
  | .delay ms =>
    insideReader
      { s with
        direct := none, treq := { s.treq with req := false }, dly := { req := true, ms := ms, done := true }
        busy := true, ph := .rDelay, opKind := .rdack }
  | .scan c b => inScanCtx c { s with direct := some (.scan c b) }
  | r => { s with direct := some r }

/-- `placeRequest` for the opcode-table word `w` of `nbits` bits; a word no request stands for changes nothing. -/
def placeTableWord (nbits w : Nat) (s : State) : State :=
  match tableRequest nbits w with
  | some r => placeRequest r s
  | none => s

end Sys2Proof.Machine
end

