-- ==== Sys2Proof/Machine/Step.lean ====
section
/-! DEFINITION. The step function and where the next operation is placed. -/

namespace Sys2Proof.Machine

/-- One step (Fetch.lean, `cycle`). -/
def step (s : State) : Host.Outcome State Fault Refusal := cycle s

/-- `s` with the operation of an opcode-table word placed so that the next step runs it (Fetch.lean,
`placeTableWord`). -/
def State.withFetchWord (s : State) (nbits w : Nat) : State := placeTableWord nbits w s

end Sys2Proof.Machine
end

