-- ==== Sys2Proof/Safety.lean ====
section
/-! DEFINITION. What the statements speak of: the invariants of spec/42_ack_reader.md R165 and spec/10_state.md R22 to
R42 (`Inv`), the shape of the traces of spec/42_ack_reader.md R166 and spec/41_command_sender.md R130 (`TraceOk`), and
the named transport assumptions of spec/43_transport_ops.md R190. -/

namespace Sys2Proof

/-- The phases of an RDACK in which its loop has not ended (10_state.md R28). -/
def Phase.inLoop (p : Phase) : Bool := decide (p = .rAvail) || decide (p = .rDelay) || decide (p = .rRead)

/-- The phases with one transport transaction outstanding (10_state.md R28), and its `t_op`. -/
def Phase.outstanding : Phase → Option TOp
  | .idle => none
  | .sFlushW => some .flushWrite
  | .sWrite => some .write
  | .rHead => none
  | .rAvail => some .remainingRead
  | .rDelay => none
  | .rRead => some .read
  | .rFlushR => some .flushRead

end Sys2Proof

namespace Sys2Proof.Machine

/-- What holds between any two steps of the system. -/
structure Inv (s : State) : Prop where
  /-- R165 (a). -/
  accLen_le : s.accLen ≤ 8
  /-- R23, R25: counts of bytes, 0 to 8. -/
  scrN_le : s.scrN ≤ 8
  txCount_le : s.txCount ≤ 8
  /-- R165 (b), R22. -/
  hunting_empty : s.rs = .hunting → s.accLen = 0
  accumulating_nonempty : s.rs = .accumulating → 1 ≤ s.accLen
  /-- R165 (c). -/
  marker_first : 1 ≤ s.accLen → s.acc.b0 = 0xF5
  /-- R32: `ack_valid` = 1 exactly when `rs` = VALIDATED. -/
  ack_iff_validated : s.ack.isSome = true ↔ s.rs = .validated
  /-- R159, R156: a valid acknowledgement is the decoded accumulator, its checksum right in the default mode. -/
  ack_decoded : ∀ a, s.ack = some a →
    a = ⟨s.acc.b1, s.acc.b2, s.acc.b3⟩ ∧ 7 ≤ s.accLen ∧
      (s.ckSource = .accumulator →
        s.acc.b6 = s.acc.b1 ^^^ s.acc.b2 ^^^ s.acc.b3 ^^^ s.acc.b4 ^^^ s.acc.b5)
  /-- R31. -/
  busy_iff : s.busy = true ↔ s.ph ≠ .idle
  not_busy_and_done : ¬ (s.busy = true ∧ s.done = true)
  idle_done : s.ph = .idle → s.opKind ≠ .none → s.done = true
  /-- R36: `err` is NONE while an operation is in progress. -/
  busy_no_err : s.busy = true → s.err = .none
  /-- R28: PH_R_HEAD is never held between steps. -/
  not_head : s.ph ≠ .rHead
  /-- R28: which operation each phase belongs to; R165 (b). -/
  send_phase : s.ph = .sFlushW ∨ s.ph = .sWrite → s.opKind = .send
  reader_phase : s.ph.inLoop = true ∨ s.ph = .rFlushR →
    s.opKind = .rdack ∧ (s.rs = .hunting ∨ s.rs = .accumulating)
  /-- R27, R162: the reader scans only inside an RDACK; in every other phase `rs` is IDLE, VALIDATED or FAILED. -/
  scanning_phase : s.rs = .hunting ∨ s.rs = .accumulating → s.ph.inLoop = true ∨ s.ph = .rFlushR
  /-- R105, R204; R29. -/
  err_reachable : s.err ≠ .ackMissingData
  perr_kind : s.perr = .none ∨ s.perr = .ackTimeout ∨ s.perr = .ackChecksumMismatch
  flush_pending_kind : s.ph = .rFlushR → s.perr ≠ .none
  /-- R155, R165 (e): inside the loop the message is short and the scratch buffer reset. -/
  loop_short : s.ph.inLoop = true → s.accLen < 7 ∧ s.scr = Buf.zero ∧ s.scrN = 0
  /-- R143: past the loop head the budget is not 0. -/
  budget_pos : s.ph = .rAvail ∨ s.ph = .rRead → s.budget ≠ 0
  /-- R28, R41: the outstanding request is the phase's. -/
  req_iff : s.treq.req = true ↔ s.ph.outstanding.isSome = true
  req_op : ∀ o, s.ph.outstanding = some o → s.treq.op = o.code
  read_request : s.ph = .rRead → s.treq.len = 8 ∧ s.treq.timeout = s.budget
  write_request : s.ph = .sWrite →
    s.treq.len = 8 ∧ s.treq.wdata = s.txf ∧ s.txf = buildFrame s.opCode s.opP0 s.opP1 s.opP2
  /-- R42: one delay, exactly in PH_R_DELAY; `d_ms` is always 100. -/
  delay_iff : s.dly.req = true ↔ s.ph = .rDelay
  delay_ms : s.dly.ms = 100
  /-- R41: a response is presented only to an outstanding request. -/
  rsp_answers : s.trsp.rsp = true → s.treq.req = true
  done_answers : s.dly.done = true → s.dly.req = true
  /-- Nothing is placed from inside the block (notes/assumptions/7.md). -/
  no_direct : s.direct = none

/-! ## Traces (newest line first) -/

/-- Some chunk read so far held the marker: the reader is ACCUMULATING (R152, R162). -/
def seenMarker : List TraceLine → Bool
  | [] => false
  | .read _ _ data :: rest => data.contains 0xF5 || seenMarker rest
  | _ :: rest => seenMarker rest

/-- R145: the threshold in force after a trace. -/
def thresholdAfter (tr : List TraceLine) : Nat := if seenMarker tr then 1 else 7

/-- The quanta consumed: one DELAY each (R191). -/
def quanta : List TraceLine → Nat
  | [] => 0
  | .delay _ :: rest => quanta rest + 1
  | _ :: rest => quanta rest

/-- The timeout the RDACK was started with. -/
def startTimeout : List TraceLine → Nat
  | [] => 0
  | .rdack t :: _ => t.toNat
  | _ :: rest => startTimeout rest

/-- R166: the budget after a trace, `timeout` less 100 for every quantum consumed, floored at 0. -/
def budgetAfter (tr : List TraceLine) : Nat := startTimeout tr - 100 * quanta tr

/-- R166: `iteration*` after the start of an RDACK. -/
def iterations : List TraceLine → Bool
  | [.rdack _] => true
  | .delay ms :: .remainingRead c :: rest =>
    decide (ms = 100) && decide (c.toNat < thresholdAfter rest) && decide (0 < budgetAfter rest) && iterations rest
  | .delay ms :: .read len t data :: .remainingRead c :: rest =>
    decide (ms = 100) && decide (len = 8) && decide (t.toNat = budgetAfter rest) && !data.isEmpty
      && decide (thresholdAfter rest ≤ c.toNat) && decide (0 < budgetAfter rest) && iterations rest
  | _ => false

/-- A poll that met the threshold, after complete iterations. -/
def polled : List TraceLine → Bool
  | .remainingRead c :: rest =>
    decide (thresholdAfter rest ≤ c.toNat) && decide (0 < budgetAfter rest) && iterations rest
  | _ => false

/-- A READ after such a poll, with (`some true`) no byte, or (`some false`) at least one. -/
def readLine (empty : Bool) : List TraceLine → Bool
  | .read len t data :: rest =>
    decide (len = 8) && decide (t.toNat = budgetAfter rest) && (data.isEmpty == empty) && polled rest
  | _ => false

/-- R166: what stands before the failure-path FLUSH_READ, for each kind it is issued for. -/
def flushable (kind : ErrKind) (tr : List TraceLine) : Bool :=
  match kind with
  | .ackTimeout => readLine true tr || (iterations tr && decide (budgetAfter tr = 0))
  | .ackChecksumMismatch => readLine false tr
  | _ => false

/-- R166: a finished RDACK, for each result. -/
def rdackDone (kind : ErrKind) (tr : List TraceLine) : Bool :=
  match kind, tr with
  | .none, tr => readLine false tr
  | .ackTimeout, .flushRead :: rest => flushable .ackTimeout rest
  | .ackChecksumMismatch, .flushRead :: rest => flushable .ackChecksumMismatch rest
  | .transportFailure, .failed .remainingRead _ :: rest => iterations rest && decide (0 < budgetAfter rest)
  | .transportFailure, .failed (.read len t) _ :: rest =>
    decide (len = 8) && decide (t.toNat = budgetAfter rest) && polled rest
  | .transportFailure, .failed .flushRead _ :: rest =>
    flushable .ackTimeout rest || flushable .ackChecksumMismatch rest
  | _, _ => false

/-- R166 at every step: the trace of an RDACK fits its phase. -/
def rdackTrace (s : State) : Bool :=
  match s.ph with
  | .rAvail => iterations s.trace && decide (budgetAfter s.trace = s.budget.toNat)
  | .rDelay =>
    iterations (.delay 100 :: s.trace) && decide (budgetAfter (.delay 100 :: s.trace) = s.budget.toNat)
  | .rRead => polled s.trace && decide (budgetAfter s.trace = s.budget.toNat)
  | .rFlushR => flushable s.perr s.trace
  | .idle => rdackDone s.err s.trace
  | _ => false

/-- R130: the trace of a SEND fits its phase and, when finished, its result. -/
def sendTrace (s : State) : Bool :=
  match s.ph with
  | .sFlushW => decide (s.trace = [.send s.opCode s.opP0 s.opP1 s.opP2])
  | .sWrite => decide (s.trace = [.flushWrite, .send s.opCode s.opP0 s.opP1 s.opP2])
  | .idle =>
    match s.err with
    | .none =>
      decide (s.trace = [.write (buildFrame s.opCode s.opP0 s.opP1 s.opP2) s.txCount, .flushWrite,
        .send s.opCode s.opP0 s.opP1 s.opP2])
    | .transportFailure =>
      decide (s.trace = [.failed .flushWrite s.terr, .send s.opCode s.opP0 s.opP1 s.opP2])
        || decide (s.trace = [.failed (.write (buildFrame s.opCode s.opP0 s.opP1 s.opP2)) s.terr, .flushWrite,
          .send s.opCode s.opP0 s.opP1 s.opP2])
    | _ => false
  | _ => false

/-- The trace fits the operation, its phase and its result. -/
def TraceOk (s : State) : Prop :=
  (s.opKind = .none → s.trace = []) ∧ (s.opKind = .send → sendTrace s = true) ∧
    (s.opKind = .rdack → rdackTrace s = true ∧
      (s.ph.inLoop = true → (s.rs = .accumulating ↔ seenMarker s.trace = true)))

/-! ## Named assumptions about the transport (R190), on a state whose request is answered; T_NONBLOCKING speaks of the
state in which it was issued as well, T_FIFO of the one after the answer is taken. The spec does not fix the moment at
which `|rxq|` is measured while L may append (43_transport_ops.md R181: "at some moment during the transaction"); here it
is the moment the answer is presented, with every byte appended by then (DESIGN CHOICE, unsafe; notes/assumptions/22.md) -/

/-- T_FIFO: READ returns the oldest bytes of `rxq`, in order, and removes exactly those (20_memory.md R64): `answered` is the
state in which the request is answered, `taken` the one after the step that takes the answer. -/
def tFifo (answered taken : State) : Prop :=
  answered.treq.op = TOp.read.code → answered.trsp.err = false →
    answerCount answered ≤ answered.rxq.length ∧
      answerBytes answered = answered.rxq.take (answerCount answered) ∧
      taken.rxq = answered.rxq.drop (answerCount answered)

/-- T_COUNT: REMAINING_READ answers exactly `|rxq|`, measured when the answer is presented (DESIGN CHOICE, unsafe;
notes/assumptions/22.md). -/
def tCount (s : State) : Prop :=
  s.treq.op = TOp.remainingRead.code → s.trsp.err = false → answerCount s = s.rxq.length

/-- T_NONBLOCKING: with a byte buffered when READ is issued (`issued`: the state the issuing step left), it answers at
least one (`answered`: the state in which that request is answered). -/
def tNonblocking (issued answered : State) : Prop :=
  issued.treq.op = TOp.read.code → 1 ≤ issued.rxq.length → answered.trsp.err = false → 1 ≤ answerCount answered

/-- T_GREEDY: with a byte buffered READ answers `min(len, |rxq|)` bytes, `|rxq|` measured when the answer is presented (DESIGN
CHOICE, unsafe; notes/assumptions/22.md). -/
def tGreedy (s : State) : Prop :=
  s.treq.op = TOp.read.code → s.trsp.err = false → 1 ≤ s.rxq.length →
    answerCount s = min s.treq.len.toNat s.rxq.length

/-- T_NOFAIL: no transaction answers `Err`. -/
def tNofail (s : State) : Prop := s.trsp.err = false

/-- T_FULLWRITE: WRITE answers 8. -/
def tFullwrite (s : State) : Prop :=
  s.treq.op = TOp.write.code → s.trsp.err = false → answerCount s = 8

/-! ## Frames: groups of state elements left as they were -/

/-- The reader's elements (10_state.md R33: those only RDACK and reset write), and the result bytes. -/
def sameReader (s t : State) : Prop :=
  t.acc = s.acc ∧ t.accLen = s.accLen ∧ t.scr = s.scr ∧ t.scrN = s.scrN ∧ t.budget = s.budget ∧ t.rs = s.rs ∧
    t.perr = s.perr ∧ t.ack = s.ack

/-- The sender's elements (10_state.md R33: those only SEND and reset write). -/
def sameSender (s t : State) : Prop :=
  t.txf = s.txf ∧ t.txCount = s.txCount ∧ t.opCode = s.opCode ∧ t.opP0 = s.opP0 ∧ t.opP1 = s.opP1 ∧ t.opP2 = s.opP2

/-- The flags and results of the operation (10_state.md R30, R31), and which operation it is. -/
def sameStatus (s t : State) : Prop :=
  t.err = s.err ∧ t.terr = s.terr ∧ t.busy = s.busy ∧ t.done = s.done ∧ t.opKind = s.opKind

/-- The transport's queues (20_memory.md R61). -/
def sameQueues (s t : State) : Prop := t.rxq = s.rxq ∧ t.txq = s.txq

/-- What no operation writes: the host's inputs, the strap, CKSUM's result, the schedule, the internal invocation. -/
def sameOutside (s t : State) : Prop :=
  t.host = s.host ∧ t.ckSource = s.ckSource ∧ t.ckOut = s.ckOut ∧ t.env = s.env ∧ t.direct = s.direct

/-- The ports after the answer of an operation's last transaction: no request, no response (R41). That the transport
port's other fields keep what they held is the model's choice (DESIGN CHOICE, unsafe; notes/assumptions/19.md). -/
def portsClosed (s t : State) : Prop :=
  t.treq = { s.treq with req := false } ∧ t.trsp = { s.trsp with rsp := false } ∧ t.dly = s.dly

/-- The operation has ended with a kind (10_state.md R37). -/
def endedWith (kind : ErrKind) (t : State) : Prop :=
  t.err = kind ∧ t.ph = .idle ∧ t.busy = false ∧ t.done = true

/-- The next request is presented and not yet answered (R41). That the response's other fields keep what they held is the
model's choice (DESIGN CHOICE, unsafe; notes/assumptions/19.md). -/
def requests (op : TOp) (len : BitVec 4) (timeout : Millis) (wdata : Buf) (s t : State) : Prop :=
  t.treq = { req := true, op := op.code, len := len, timeout := timeout, wdata := wdata } ∧
    t.trsp = { s.trsp with rsp := false }

/-- An answer `Ok` with count `n` is presented (R41). -/
def answeredOk (n : Nat) (s : State) : Prop := s.trsp.rsp = true ∧ s.trsp.err = false ∧ s.trsp.count.toNat = n

/-- An answer `Err(e)` is presented (R41). -/
def answeredErr (e : TErr) (s : State) : Prop := s.trsp.rsp = true ∧ s.trsp.err = true ∧ s.trsp.errval = e

/-! ## Streams -/

/-- The stream from its first marker on (42_ack_reader.md R165 (d)). -/
def fromMarker (bytes : List Byte) : List Byte := bytes.dropWhile fun b => b != 0xF5

/-- The scans of several chunks, one after the other (42_ack_reader.md R150: the state carries over from chunk to
chunk). -/
def scanChunks (chunks : List (List Byte)) (s : State) : State := chunks.foldl (fun u c => scanBytes c u) s

/-- R156, R157: the buffer whose bytes 1 to 5 the checksum byte is compared with, when a READ of `n` bytes answered in `s`
has been scanned to `m`. -/
def verdictSource (n : Nat) (s m : State) : Buf :=
  match s.ckSource with
  | .accumulator => m.acc
  | .lastChunk => s.scr.overlay s.trsp.rdata n

/-! ## Iteration bounds -/

/-- R167: `ceil(timeout / 100)`. -/
def ceilQuanta (ms : Nat) : Nat := (ms + 99) / 100

/-- R252, R167: an upper bound on the transactions and delays still to be answered before the operation completes. -/
def remaining (s : State) : Nat :=
  match s.ph with
  | .idle => 0
  | .sFlushW => 2
  | .sWrite => 1
  | .rHead => 3 * ceilQuanta s.budget.toNat + 2
  | .rAvail => 3 * ceilQuanta s.budget.toNat + 1
  | .rRead => 3 * ceilQuanta s.budget.toNat
  | .rDelay => 3 * ceilQuanta s.budget.toNat + 2
  | .rFlushR => 1

/-- The lines of a trace that a test picks out. -/
def linesOf (p : TraceLine → Bool) (tr : List TraceLine) : Nat := tr.countP p

/-- A REMAINING_READ's line, answered or failed. -/
def TraceLine.isPoll : TraceLine → Bool
  | .remainingRead _ => true
  | .failed .remainingRead _ => true
  | _ => false

/-- A READ's line, answered or failed. -/
def TraceLine.isRead : TraceLine → Bool
  | .read _ _ _ => true
  | .failed (.read _ _) _ => true
  | _ => false

/-- A DELAY's line. -/
def TraceLine.isDelay : TraceLine → Bool
  | .delay _ => true
  | _ => false

/-- A FLUSH_READ's line, answered or failed. -/
def TraceLine.isFlushRead : TraceLine → Bool
  | .flushRead => true
  | .failed .flushRead _ => true
  | _ => false

/-- A line of the write side: FLUSH_WRITE or WRITE, answered or failed. -/
def TraceLine.isWriteSide : TraceLine → Bool
  | .flushWrite => true
  | .write _ _ => true
  | .failed .flushWrite _ => true
  | .failed (.write _) _ => true
  | _ => false

end Sys2Proof.Machine
end

