-- ==== Sys2Proof/Certificates/Slice0/Obligations.lean ====
section
/-! DEFINITION. The statements for the provers, each formalising numbered rules of spec/ or a property of the machine
derived from them. A statement about an instruction's next state names what the spec says it writes and, by the frame
predicates of Safety.lean, what it leaves unchanged. -/

open Sys2Proof Sys2Proof.Machine

/-! ## The codec -/

/-- 40_frame_codec.md R120. -/
def Obligations.CksumXorsBytesOneToFive : Prop :=
  ∀ f : Buf, cksum f = f.b1 ^^^ f.b2 ^^^ f.b3 ^^^ f.b4 ^^^ f.b5

/-- 40_frame_codec.md R121 (a), (b), (d), (e); (c), determinism, is that `cksum` is a function. -/
def Obligations.CksumLaws : Prop :=
  (∀ f g : Buf, (∀ i, 1 ≤ i → i ≤ 5 → f.get i = g.get i) → cksum f = cksum g) ∧
  (∀ (f g : Buf) (p : Equiv.Perm (Fin 5)), (∀ i : Fin 5, g.get (i.val + 1) = f.get ((p i).val + 1)) →
    cksum g = cksum f) ∧
  (∀ (f : Buf) (i : Nat) (d : Byte), 1 ≤ i → i ≤ 5 → cksum (f.set i (f.get i ^^^ d)) = cksum f ^^^ d) ∧
  (∀ (f : Buf) (i j : Nat) (d : Byte), 1 ≤ i → i ≤ 5 → 1 ≤ j → j ≤ 5 → i ≠ j →
    cksum ((f.set i (f.get i ^^^ d)).set j (f.get j ^^^ d)) = cksum f) ∧
  (∀ (f g : Buf), g.b6 ^^^ f.b6 = cksum g ^^^ cksum f → (g.b6 = cksum g ↔ f.b6 = cksum f))

/-- CKSUM run on its own. Where its result goes, `ckOut`, is the model's choice (notes/assumptions/6.md). -/
def Obligations.CksumCompletes : Prop :=
  ∀ (f : Buf) (s : State),
    exec (.cksum f) s = .next { s with ckOut := f.b1 ^^^ f.b2 ^^^ f.b3 ^^^ f.b4 ^^^ f.b5 }

/-- 40_frame_codec.md R123: `txf` and nothing else. -/
def Obligations.BuildWritesTheFrame : Prop :=
  ∀ (code p0 p1 p2 : Byte) (s : State),
    exec (.build code p0 p1 p2) s =
      .next { s with txf := ⟨0, code, p0, p1, p2, 0, code ^^^ p0 ^^^ p1 ^^^ p2, 0⟩ }

/-- 40_frame_codec.md R124 (a) to (d). -/
def Obligations.BuiltFrameLaws : Prop :=
  (∀ code p0 p1 p2 : Byte,
    (buildFrame code p0 p1 p2).b6 = cksum (buildFrame code p0 p1 p2) ∧
      (buildFrame code p0 p1 p2).b0 = 0 ∧ (buildFrame code p0 p1 p2).b5 = 0 ∧ (buildFrame code p0 p1 p2).b7 = 0 ∧
      (buildFrame code p0 p1 p2).b0 ≠ params.marker) ∧
  (∀ c a b d c' a' b' d' : Byte, buildFrame c a b d = buildFrame c' a' b' d' → c = c' ∧ a = a' ∧ b = b' ∧ d = d')

/-! ## SEND -/

/-- 41_command_sender.md R130, R131; 10_state.md R36, R40. Two points are the model's choice (DESIGN CHOICE), no rule's:
unused request fields are 0 (notes/assumptions/14.md) and the response's other fields are kept (notes/assumptions/19.md). -/
def Obligations.SendStartLatchesAndFlushes : Prop :=
  ∀ (code p0 p1 p2 : Byte) (timeout : Millis) (s : State), s.busy = false →
    ∃ t, exec (.send code p0 p1 p2 timeout) s = .next t ∧
      t.opCode = code ∧ t.opP0 = p0 ∧ t.opP1 = p1 ∧ t.opP2 = p2 ∧ t.opKind = .send ∧
      t.busy = true ∧ t.done = false ∧ t.err = .none ∧ t.ph = .sFlushW ∧
      requests .flushWrite 0 0 Buf.zero s t ∧
      t.txf = s.txf ∧ t.txCount = s.txCount ∧ sameReader s t ∧ t.dly = s.dly ∧ sameQueues s t ∧ sameOutside s t

/-- 41_command_sender.md R135: the timeout operand is ignored. -/
def Obligations.SendIgnoresTimeout : Prop :=
  ∀ (code p0 p1 p2 : Byte) (x y : Millis) (s : State),
    exec (.send code p0 p1 p2 x) s = exec (.send code p0 p1 p2 y) s

/-- 10_state.md R38: a start while busy changes nothing. -/
def Obligations.StartWhileBusyIsIgnored : Prop :=
  ∀ s : State, s.busy = true →
    (∀ (code p0 p1 p2 : Byte) (timeout : Millis), exec (.send code p0 p1 p2 timeout) s = .next s) ∧
      (∀ timeout : Millis, exec (.rdack timeout) s = .next s)

/-- 43_transport_ops.md R183; 41_command_sender.md R132, R133. Two points are the model's choice (DESIGN CHOICE), no
rule's: WRITE's unused timeout is 0 (notes/assumptions/14.md) and the response's other fields are kept
(notes/assumptions/19.md). -/
def Obligations.FlushWriteOkBuildsAndWrites : Prop :=
  ∀ (n : Nat) (s : State), answeredOk n s → s.ph = .sFlushW →
    ∃ t, exec .flushWrite s = .next t ∧
      t.txq = [] ∧ t.ph = .sWrite ∧
      t.txf = ⟨0, s.opCode, s.opP0, s.opP1, s.opP2, 0, s.opCode ^^^ s.opP0 ^^^ s.opP1 ^^^ s.opP2, 0⟩ ∧
      requests .write 8 0 t.txf s t ∧
      t.txCount = s.txCount ∧ t.opCode = s.opCode ∧ t.opP0 = s.opP0 ∧ t.opP1 = s.opP1 ∧ t.opP2 = s.opP2 ∧
      sameStatus s t ∧ sameReader s t ∧ t.rxq = s.rxq ∧ t.dly = s.dly ∧ sameOutside s t

/-- 41_command_sender.md R134, R135; 43_transport_ops.md R187: any count is success, `tx_count` holds it, no wait.
That the transport port's other fields keep what they held is the model's choice (DESIGN CHOICE,
notes/assumptions/19.md). -/
def Obligations.WriteOkCompletesSend : Prop :=
  ∀ (data : Buf) (n : Nat) (s : State), answeredOk n s → n ≤ 8 → s.ph = .sWrite →
    ∃ t, exec (.write 8 data) s = .next t ∧
      endedWith .none t ∧ t.txCount = n ∧ t.txq = s.txq ++ data.toList.take n ∧
      t.terr = s.terr ∧ t.opKind = s.opKind ∧ portsClosed s t ∧
      t.txf = s.txf ∧ t.opCode = s.opCode ∧ t.opP0 = s.opP0 ∧ t.opP1 = s.opP1 ∧ t.opP2 = s.opP2 ∧
      sameReader s t ∧ t.rxq = s.rxq ∧ sameOutside s t

/-- 41_command_sender.md R136: an error on either transaction ends SEND with TRANSPORT_FAILURE; `txf` and `tx_count`
are as they were. That the transport port's other fields keep what they held is the model's choice (DESIGN CHOICE,
notes/assumptions/19.md). -/
def Obligations.SendTransportFailure : Prop :=
  ∀ (i : Instr) (e : TErr) (s : State), answeredErr e s → s.opKind = .send →
    (i = .flushWrite ∧ s.ph = .sFlushW ∨ (∃ data, i = .write 8 data) ∧ s.ph = .sWrite) →
    ∃ t, exec i s = .next t ∧
      endedWith .transportFailure t ∧ t.terr = e ∧ t.opKind = .send ∧ portsClosed s t ∧
      sameSender s t ∧ sameReader s t ∧ t.rxq = s.rxq ∧ sameOutside s t

/-- 41_command_sender.md R137, over every step in which the block moves inside a SEND. -/
def Obligations.SendStepsLeaveTheReaderAlone : Prop :=
  ∀ s t : State, Inv s → s.ph = .sFlushW ∨ s.ph = .sWrite → pending s ≠ none → step s = .next t →
    sameReader s t ∧ t.rxq = s.rxq

/-! ## RDACK -/

/-- 42_ack_reader.md R142, R143; 10_state.md R36: with a nonzero timeout the first poll is issued. Three points are the
model's, no rule's: unused request fields are 0 (DESIGN CHOICE, notes/assumptions/14.md), PH_R_HEAD is folded (DEDUCED,
notes/assumptions/16.md), the transport port's other fields are kept (DESIGN CHOICE, notes/assumptions/19.md). -/
def Obligations.RdackStartPolls : Prop :=
  ∀ (timeout : Millis) (s : State), s.busy = false → timeout ≠ 0 →
    ∃ t, exec (.rdack timeout) s = .next t ∧
      t.rs = .hunting ∧ t.accLen = 0 ∧ t.budget = timeout ∧ t.scr = Buf.zero ∧ t.scrN = 0 ∧ t.ack = none ∧
      t.perr = .none ∧ t.opKind = .rdack ∧ t.busy = true ∧ t.done = false ∧ t.err = .none ∧ t.ph = .rAvail ∧
      requests .remainingRead 0 0 Buf.zero s t ∧
      t.acc = s.acc ∧ sameSender s t ∧ t.dly = s.dly ∧ sameQueues s t ∧ sameOutside s t

/-- 42_ack_reader.md R143, R160: a timeout of 0 polls nothing and flushes for ACK_TIMEOUT. Three points are the
model's, no rule's: unused request fields are 0 (DESIGN CHOICE, notes/assumptions/14.md), PH_R_HEAD is folded (DEDUCED,
notes/assumptions/16.md), the transport port's other fields are kept (DESIGN CHOICE, notes/assumptions/19.md). -/
def Obligations.RdackZeroTimeoutFlushes : Prop :=
  ∀ s : State, s.busy = false →
    ∃ t, exec (.rdack 0) s = .next t ∧
      t.rs = .hunting ∧ t.accLen = 0 ∧ t.budget = 0 ∧ t.scr = Buf.zero ∧ t.scrN = 0 ∧ t.ack = none ∧
      t.perr = .ackTimeout ∧ t.opKind = .rdack ∧ t.busy = true ∧ t.done = false ∧ t.err = .none ∧ t.ph = .rFlushR ∧
      requests .flushRead 0 0 Buf.zero s t ∧
      t.acc = s.acc ∧ sameSender s t ∧ t.dly = s.dly ∧ sameQueues s t ∧ sameOutside s t

/-- 42_ack_reader.md R145, R146: below the threshold a quantum is consumed and no READ issued. That the transport port's
other fields keep what they held is the model's choice (DESIGN CHOICE, notes/assumptions/19.md). -/
def Obligations.PollBelowThresholdDelays : Prop :=
  ∀ (n : Nat) (s : State), answeredOk n s → s.ph = .rAvail → n < (if s.rs = .hunting then 7 else 1) →
    ∃ t, exec .remainingRead s = .next t ∧
      t.budget = (if 100 ≤ s.budget then s.budget - 100 else 0) ∧ t.ph = .rDelay ∧
      t.dly = { req := true, ms := 100, done := false } ∧
      t.treq = { s.treq with req := false } ∧ t.trsp = { s.trsp with rsp := false } ∧
      t.acc = s.acc ∧ t.accLen = s.accLen ∧ t.scr = s.scr ∧ t.scrN = s.scrN ∧ t.rs = s.rs ∧ t.perr = s.perr ∧
      t.ack = s.ack ∧ sameStatus s t ∧ sameSender s t ∧ sameQueues s t ∧ sameOutside s t

/-- 42_ack_reader.md R145, R147: at the threshold READ is issued for 8 bytes with the remaining budget. Two points
are the model's choice (DESIGN CHOICE), no rule's: READ's unused `t_wdata` is 0 (notes/assumptions/14.md) and the
response's other fields are kept (notes/assumptions/19.md). -/
def Obligations.PollAtThresholdReads : Prop :=
  ∀ (n : Nat) (s : State), answeredOk n s → s.ph = .rAvail → (if s.rs = .hunting then 7 else 1) ≤ n →
    ∃ t, exec .remainingRead s = .next t ∧
      t.ph = .rRead ∧ requests .read 8 s.budget Buf.zero s t ∧
      sameReader s t ∧ sameStatus s t ∧ sameSender s t ∧ t.dly = s.dly ∧ sameQueues s t ∧ sameOutside s t

/-- 43_transport_ops.md R191; 42_ack_reader.md R143, R160: a completed delay, then the loop head. Three points are the
model's, no rule's: unused request fields are 0 (DESIGN CHOICE, notes/assumptions/14.md), PH_R_HEAD is folded (DEDUCED,
notes/assumptions/16.md), the response's other fields are kept (DESIGN CHOICE, notes/assumptions/19.md). -/
def Obligations.DelayThenLoopHead : Prop :=
  ∀ (ms : Millis) (s : State), s.dly.done = true → s.ph = .rDelay →
    ∃ t, exec (.delay ms) s = .next t ∧
      (s.budget ≠ 0 → t.ph = .rAvail ∧ requests .remainingRead 0 0 Buf.zero s t ∧ t.perr = s.perr) ∧
      (s.budget = 0 → t.ph = .rFlushR ∧ requests .flushRead 0 0 Buf.zero s t ∧ t.perr = .ackTimeout) ∧
      t.dly = { s.dly with req := false, done := false } ∧
      t.acc = s.acc ∧ t.accLen = s.accLen ∧ t.scr = s.scr ∧ t.scrN = s.scrN ∧ t.budget = s.budget ∧ t.rs = s.rs ∧
      t.ack = s.ack ∧ sameStatus s t ∧ sameSender s t ∧ sameQueues s t ∧ sameOutside s t

/-- 42_ack_reader.md R148: a zero-byte READ flushes for ACK_TIMEOUT, whatever the budget. Two points are the model's
choice (DESIGN CHOICE), no rule's: unused request fields are 0 (notes/assumptions/14.md) and the response's other fields
are kept (notes/assumptions/19.md). -/
def Obligations.ZeroByteReadFlushes : Prop :=
  ∀ (timeout : Millis) (s : State), answeredOk 0 s → s.ph = .rRead →
    ∃ t, exec (.read 8 timeout) s = .next t ∧
      t.ph = .rFlushR ∧ t.perr = .ackTimeout ∧ requests .flushRead 0 0 Buf.zero s t ∧
      t.acc = s.acc ∧ t.accLen = s.accLen ∧ t.scr = s.scr ∧ t.scrN = s.scrN ∧ t.budget = s.budget ∧ t.rs = s.rs ∧
      t.ack = s.ack ∧ sameStatus s t ∧ sameSender s t ∧ t.dly = s.dly ∧ sameQueues s t ∧ sameOutside s t

/-- 42_ack_reader.md R149, R155: a chunk that leaves fewer than 7 bytes in the accumulator: what the scan left in `rs`,
`acc`, `acc_len` is kept, the scratch buffer is reset, a quantum is consumed. Two points are the model's choice
(DESIGN CHOICE), no rule's: the transport port's other fields are kept (notes/assumptions/19.md); `n` bytes leave the
head of `rxq`, all it holds if fewer, whatever bytes were answered (notes/assumptions/20.md). -/
def Obligations.ShortChunkDelays : Prop :=
  ∀ (timeout : Millis) (n : Nat) (s : State), answeredOk n s → 1 ≤ n → n ≤ 8 → s.ph = .rRead →
    (scanBytes (s.trsp.rdata.toList.take n) s).accLen < 7 →
    ∃ t, exec (.read 8 timeout) s = .next t ∧
      t.rs = (scanBytes (s.trsp.rdata.toList.take n) s).rs ∧
      t.acc = (scanBytes (s.trsp.rdata.toList.take n) s).acc ∧
      t.accLen = (scanBytes (s.trsp.rdata.toList.take n) s).accLen ∧
      t.scr = Buf.zero ∧ t.scrN = 0 ∧ t.budget = (if 100 ≤ s.budget then s.budget - 100 else 0) ∧ t.ph = .rDelay ∧
      t.dly = { req := true, ms := 100, done := false } ∧
      t.treq = { s.treq with req := false } ∧ t.trsp = { s.trsp with rsp := false } ∧
      t.rxq = s.rxq.drop n ∧ t.txq = s.txq ∧ t.perr = s.perr ∧ t.ack = s.ack ∧
      sameStatus s t ∧ sameSender s t ∧ sameOutside s t

/-- 42_ack_reader.md R159, with R156 and R157: at 7 bytes or more, a checksum byte that matches, in the mode in force, is
success: the fields are decoded, nothing is flushed, the operation completes. Two points are the model's choice (DESIGN
CHOICE), no rule's: the transport port's other fields are kept (notes/assumptions/19.md); `n` bytes leave the head of
`rxq`, all it holds if fewer, whatever bytes were answered (notes/assumptions/20.md). -/
def Obligations.GoodMessageIsDecoded : Prop :=
  ∀ (timeout : Millis) (n : Nat) (s m : State) (c : Buf), answeredOk n s → 1 ≤ n → n ≤ 8 → s.ph = .rRead →
    m = scanBytes (s.trsp.rdata.toList.take n) s → 7 ≤ m.accLen → c = verdictSource n s m →
    m.acc.b6 = c.b1 ^^^ c.b2 ^^^ c.b3 ^^^ c.b4 ^^^ c.b5 →
    ∃ t, exec (.read 8 timeout) s = .next t ∧
      t.ack = some ⟨m.acc.b1, m.acc.b2, m.acc.b3⟩ ∧ t.rs = .validated ∧ endedWith .none t ∧
      t.acc = m.acc ∧ t.accLen = m.accLen ∧ t.scr = s.scr.overlay s.trsp.rdata n ∧ t.scrN = n ∧
      t.budget = s.budget ∧ t.perr = s.perr ∧ t.terr = s.terr ∧ t.opKind = s.opKind ∧ portsClosed s t ∧
      t.rxq = s.rxq.drop n ∧ t.txq = s.txq ∧ sameSender s t ∧ sameOutside s t

/-- 42_ack_reader.md R158, with R156 and R157: a checksum byte that does not match, in the mode in force, flushes for
ACK_CHECKSUM_MISMATCH. Three points are the model's choice (DESIGN CHOICE), no rule's: unused request fields are 0
(notes/assumptions/14.md); the response's other fields are kept (notes/assumptions/19.md); `n` bytes leave the head of
`rxq`, all it holds if fewer, whatever bytes were answered (notes/assumptions/20.md). -/
def Obligations.BadMessageFlushes : Prop :=
  ∀ (timeout : Millis) (n : Nat) (s m : State) (c : Buf), answeredOk n s → 1 ≤ n → n ≤ 8 → s.ph = .rRead →
    m = scanBytes (s.trsp.rdata.toList.take n) s → 7 ≤ m.accLen → c = verdictSource n s m →
    m.acc.b6 ≠ c.b1 ^^^ c.b2 ^^^ c.b3 ^^^ c.b4 ^^^ c.b5 →
    ∃ t, exec (.read 8 timeout) s = .next t ∧
      t.perr = .ackChecksumMismatch ∧ t.ph = .rFlushR ∧ requests .flushRead 0 0 Buf.zero s t ∧
      t.rs = m.rs ∧ t.acc = m.acc ∧ t.accLen = m.accLen ∧ t.scr = s.scr.overlay s.trsp.rdata n ∧ t.scrN = n ∧
      t.budget = s.budget ∧ t.ack = s.ack ∧ t.dly = s.dly ∧ t.rxq = s.rxq.drop n ∧ t.txq = s.txq ∧
      sameStatus s t ∧ sameSender s t ∧ sameOutside s t

/-- 42_ack_reader.md R157 (a), (b): the two ways one chunk completes a message, and what `CKSUM(scr)` then is. -/
def Obligations.LastChunkModeSingleChunkCases : Prop :=
  ∀ (d : Buf) (n : Nat) (s m : State), s.rs = .hunting → s.accLen = 0 → s.scr = Buf.zero → 1 ≤ n → n ≤ 8 →
    m = scanChunk (storeChunk n d s) → 7 ≤ m.accLen →
    (d.b0 = params.marker ∧ cksum m.scr = cksum m.acc) ∨
      (d.b0 ≠ params.marker ∧ d.b1 = params.marker ∧ n = 8 ∧
        cksum m.scr = 0xF5 ^^^ m.acc.b1 ^^^ m.acc.b2 ^^^ m.acc.b3 ^^^ m.acc.b4)

/-- 42_ack_reader.md R161; 60_exceptions.md R209: an error on a poll or a read ends RDACK with TRANSPORT_FAILURE and no
flush. That the transport port's other fields keep what they held is the model's choice (DESIGN CHOICE,
notes/assumptions/19.md). -/
def Obligations.ReaderTransportFailure : Prop :=
  ∀ (i : Instr) (e : TErr) (s : State), answeredErr e s → s.opKind = .rdack →
    (i = .remainingRead ∧ s.ph = .rAvail ∨ (∃ timeout, i = .read 8 timeout) ∧ s.ph = .rRead) →
    ∃ t, exec i s = .next t ∧
      endedWith .transportFailure t ∧ t.terr = e ∧ t.rs = .failed ∧ t.opKind = .rdack ∧ portsClosed s t ∧
      t.acc = s.acc ∧ t.accLen = s.accLen ∧ t.scr = s.scr ∧ t.scrN = s.scrN ∧ t.budget = s.budget ∧
      t.perr = s.perr ∧ t.ack = s.ack ∧ sameSender s t ∧ t.txq = s.txq ∧ sameOutside s t

/-- 60_exceptions.md R208: the flush answered, the pending kind is reported. That the transport port's
other fields keep what they held is the model's choice (DESIGN CHOICE, notes/assumptions/19.md). -/
def Obligations.FlushReadOkReportsThePendingKind : Prop :=
  ∀ (n : Nat) (s : State), answeredOk n s → s.ph = .rFlushR → s.opKind = .rdack →
    ∃ t, exec .flushRead s = .next t ∧
      t.rxq = [] ∧ endedWith s.perr t ∧ t.rs = .failed ∧ t.terr = s.terr ∧ t.opKind = .rdack ∧ portsClosed s t ∧
      t.acc = s.acc ∧ t.accLen = s.accLen ∧ t.scr = s.scr ∧ t.scrN = s.scrN ∧ t.budget = s.budget ∧
      t.perr = s.perr ∧ t.ack = s.ack ∧ sameSender s t ∧ t.txq = s.txq ∧ sameOutside s t

/-- 60_exceptions.md R210: the flush failed, TRANSPORT_FAILURE takes the pending kind's place. That the transport port's
other fields keep what they held is the model's choice (DESIGN CHOICE, notes/assumptions/19.md). -/
def Obligations.FlushReadErrReplacesThePendingKind : Prop :=
  ∀ (e : TErr) (s : State), answeredErr e s → s.ph = .rFlushR → s.opKind = .rdack →
    ∃ t, exec .flushRead s = .next t ∧
      endedWith .transportFailure t ∧ t.terr = e ∧ t.rs = .failed ∧ t.opKind = .rdack ∧ portsClosed s t ∧
      t.acc = s.acc ∧ t.accLen = s.accLen ∧ t.scr = s.scr ∧ t.scrN = s.scrN ∧ t.budget = s.budget ∧
      t.perr = s.perr ∧ t.ack = s.ack ∧ sameSender s t ∧ t.txq = s.txq ∧ sameOutside s t

/-- 43_transport_ops.md R184, R187 with 93 U17: more bytes than asked for or offered is given no step. -/
def Obligations.CountAboveEightIsRefused : Prop :=
  ∀ (n : Nat) (s : State), answeredOk n s → 8 < n →
    (∀ timeout : Millis, exec (.read 8 timeout) s = .refused .answerOutOfRange) ∧
      (∀ data : Buf, exec (.write 8 data) s = .refused .answerOutOfRange)

/-- 43_transport_ops.md R180: an operation or a delay that is not answered leaves everything as it is. -/
def Obligations.UnansweredOperationsWait : Prop :=
  (∀ (i : Instr) (s : State), s.trsp.rsp = false →
    (i = .remainingRead ∨ i = .flushRead ∨ i = .flushWrite ∨ (∃ l x, i = .read l x) ∨ (∃ l d, i = .write l d)) →
    exec i s = .next s) ∧
  (∀ (ms : Millis) (s : State), s.dly.done = false → exec (.delay ms) s = .next s)

/-- An answer to an operation the block does not wait for has its effect on the transport's queues only (93 U32; that it is
otherwise ignored is the model's choice, notes/assumptions/18.md). -/
def Obligations.AnswersNothingWaitsForAreIgnored : Prop :=
  ∀ (i : Instr) (o : TOp) (s t : State),
    (i = .remainingRead ∧ o = .remainingRead ∨ i = .flushRead ∧ o = .flushRead ∨ i = .flushWrite ∧ o = .flushWrite ∨
      (∃ len timeout, i = .read len timeout) ∧ o = .read ∨ (∃ len data, i = .write len data) ∧ o = .write) →
    s.ph.outstanding ≠ some o → exec i s = .next t →
    sameReader s t ∧ sameSender s t ∧ sameStatus s t ∧ t.ph = s.ph ∧ t.dly = s.dly ∧ sameOutside s t

/-! ## The scan actions -/

/-- 42_ack_reader.md R151: the byte is dropped. -/
def Obligations.HuntDiscardDropsTheByte : Prop :=
  ∀ (b : Byte) (s : State), s.rs = .hunting → b ≠ 0xF5 → exec (.huntDiscard b) s = .next s

/-- 42_ack_reader.md R152: the marker is stored and accumulation begins. -/
def Obligations.HuntSyncStoresTheMarker : Prop :=
  ∀ s : State, s.rs = .hunting → s.accLen = 0 →
    exec .huntSync s = .next { s with rs := .accumulating, acc := { s.acc with b0 := 0xF5 }, accLen := 1 }

/-- 42_ack_reader.md R153: the byte goes to index `acc_len`, every other byte stays. -/
def Obligations.AccAppendStoresAtAccLen : Prop :=
  ∀ (b : Byte) (s : State), s.rs = .accumulating → s.accLen < 8 →
    ∃ t, exec (.accAppend b) s = .next t ∧ t.accLen = s.accLen + 1 ∧ t.acc.get s.accLen = b ∧
      (∀ j, j ≠ s.accLen → t.acc.get j = s.acc.get j) ∧
      t.rs = s.rs ∧ t.ph = s.ph ∧ t.scr = s.scr ∧ t.scrN = s.scrN ∧ t.budget = s.budget ∧ t.perr = s.perr ∧
      t.ack = s.ack ∧ sameStatus s t ∧ sameSender s t ∧ t.treq = s.treq ∧ t.trsp = s.trsp ∧ t.dly = s.dly ∧
      sameQueues s t ∧ sameOutside s t

/-- 42_ack_reader.md R154: with the accumulator full the byte is dropped, whatever it is. -/
def Obligations.SurplusDropChangesNothing : Prop :=
  ∀ (b : Byte) (s : State), s.accLen = 8 → exec (.surplusDrop b) s = .next s

/-- 42_ack_reader.md R150; 30_encoding.md R106: in each of the two live reader states the action decoded for a byte is
the one the scan performs. -/
def Obligations.ScanPerformsTheDecodedAction : Prop :=
  ∀ (b : Byte) (s : State), s.rs = .hunting ∨ s.rs = .accumulating → s.accLen ≤ 8 →
    exec (decodeScan (scanCtx s) b) s = .next (scanByte s b)

/-- 20_memory.md R69; 42_ack_reader.md R165 (d), R163: from HUNTING the accumulator collects the stream from its first
marker on, at most 8 bytes; before a marker nothing is kept. -/
def Obligations.ScanCollectsFromTheFirstMarker : Prop :=
  ∀ (bytes m : List Byte) (s : State), s.rs = .hunting → s.accLen = 0 → m = fromMarker bytes →
    (m = [] → scanBytes bytes s = s) ∧
      (m ≠ [] → (scanBytes bytes s).rs = .accumulating ∧ (scanBytes bytes s).accLen = min 8 m.length ∧
        (scanBytes bytes s).acc.toList.take (min 8 m.length) = m.take 8)

/-- 42_ack_reader.md R156, last sentence; 20_memory.md R71; 95_test_vectors.md, claim 9: in the default mode the verdict
and the decoded fields are fixed by the first marker and the six bytes after it, however the stream was cut into chunks
and whatever preceded the marker. -/
def Obligations.VerdictIsFixedByTheFirstSevenBytes : Prop :=
  ∀ (xs ys : List (List Byte)) (s t : State),
    s.rs = .hunting → s.accLen = 0 → s.ckSource = .accumulator →
    t.rs = .hunting → t.accLen = 0 → t.ckSource = .accumulator →
    7 ≤ (fromMarker xs.flatten).length → (fromMarker xs.flatten).take 7 = (fromMarker ys.flatten).take 7 →
    7 ≤ (scanChunks xs s).accLen ∧ 7 ≤ (scanChunks ys t).accLen ∧
      checksumOk (scanChunks xs s) = checksumOk (scanChunks ys t) ∧
      decodeAck (scanChunks xs s).acc = decodeAck (scanChunks ys t).acc

/-- An action that is not the one R150 applies to the byte is not performed; the spec gives it no effect there, and that it
changes nothing is the model's choice (notes/assumptions/17.md). -/
def Obligations.ScanActionsThatDoNotApplyChangeNothing : Prop :=
  ∀ (i : Instr) (s : State),
    ((∃ b, i = .huntDiscard b ∧ (s.rs ≠ .hunting ∨ s.accLen = 8 ∨ b = 0xF5)) ∨ i = .huntSync ∧ (s.rs ≠ .hunting ∨ s.accLen = 8) ∨
      (∃ b, i = .accAppend b) ∧ (s.rs ≠ .accumulating ∨ 8 ≤ s.accLen) ∨
      (∃ b, i = .surplusDrop b) ∧ s.accLen ≠ 8) →
    exec i s = .next s

/-! ## Wire formats -/

/-- 30_encoding.md R91, R92, R107; 20_memory.md R67: a frame of each format, whole, in line order. That CMD joins `txq`
and ACK joins `rxq` is the model's reading of the two format rows (notes/assumptions/10.md). -/
def Obligations.WireFramesTravelWhole : Prop :=
  (∀ (c a b d k : Byte) (s : State),
    exec (.cmd c a b d k) s = .next { s with txq := s.txq ++ [0, c, a, b, d, 0, k, 0] }) ∧
  (∀ (t q r u v k w : Byte) (s : State),
    exec (.ack t q r u v k (some w)) s = .next { s with rxq := s.rxq ++ [0xF5, t, q, r, u, v, k, w] }) ∧
  (∀ (t q r u v k : Byte) (s : State),
    exec (.ack t q r u v k none) s = .next { s with rxq := s.rxq ++ [0xF5, t, q, r, u, v, k] })

/-! ## The step -/

/-- A step runs the decoded instruction: what the ports present (`pending`) decodes to `i`, and the step is `exec i`.
The only thing around it is that an internal invocation is used up. That a step is this is the model's, no rule's: the
block moves before the schedule, whatever `env` holds (DESIGN CHOICE, unsafe, notes/assumptions/1.md); what a step runs is
what a port presents (DEDUCED, notes/assumptions/11.md); `h_start` is a level, so a start still presented starts again
(DESIGN CHOICE, notes/assumptions/15.md); an internal invocation goes first (DESIGN CHOICE, notes/assumptions/7.md). -/
def Obligations.StepRunsTheDecodedInstruction : Prop :=
  (∀ (s : State) (r : Request) (i : Instr), pending s = some r → decode r = .ok i →
    step s = exec i { s with direct := none }) ∧
  (∀ (s : State) (i : Instr), s.direct = none → s.treq.req = true → s.trsp.rsp = true →
    decode (.transport s.treq) = .ok i → step s = exec i s) ∧
  (∀ s : State, s.direct = none → s.treq.req = false → s.dly.req = true → s.dly.done = true →
    step s = exec (.delay s.dly.ms) s) ∧
  (∀ (s : State) (i : Instr), s.direct = none → s.treq.req = false → s.dly.req = false → s.host.start = true →
    s.busy = false → decode (.host s.host) = .ok i → step s = exec i s)

/-- 10_state.md R39: `h_op` 0 or 3 with `h_start` starts nothing; 60_exceptions.md R221: with nothing presented the
block waits. Nothing is scheduled, so nothing changes. -/
def Obligations.NothingStartsWithoutAnOperation : Prop :=
  ∀ s : State, s.direct = none → s.treq.req = false → s.dly.req = false → s.ph = .idle → s.env = [] →
    s.host.start = false ∨ s.host.op = 0 ∨ s.host.op = 3 → step s = .next s

/-- 10_state.md R43; 70_reset_and_hazards.md R230: the values the spec gives for reset. -/
def Obligations.ResetValues : Prop :=
  State.reset.ph = .idle ∧ State.reset.rs = .idle ∧ State.reset.busy = false ∧ State.reset.done = false ∧
    State.reset.err = .none ∧ State.reset.perr = .none ∧ State.reset.opKind = .none ∧
    ackValid State.reset = false ∧ State.reset.accLen = 0 ∧ State.reset.scrN = 0 ∧ State.reset.txCount = 0 ∧
    State.reset.budget = 0 ∧ State.reset.treq.req = false ∧ State.reset.dly.req = false

/-- 70_reset_and_hazards.md R230, R231, R233: a reset edge, in any state where the block itself has nothing to run.
That it comes in no other state is the model's choice (DESIGN CHOICE, unsafe, notes/assumptions/1.md). -/
def Obligations.ResetEdgeAbandonsTheOperation : Prop :=
  ∀ (s : State) (rest : List EnvStep), pending s = none → s.ph ≠ .rHead → s.env = .rst :: rest →
    ∃ t, step s = .next t ∧
      t.ph = .idle ∧ t.rs = .idle ∧ t.busy = false ∧ t.done = false ∧ t.err = .none ∧ t.perr = .none ∧
      t.opKind = .none ∧ ackValid t = false ∧ t.accLen = 0 ∧ t.scrN = 0 ∧ t.txCount = 0 ∧ t.budget = 0 ∧
      t.treq.req = false ∧ t.dly.req = false ∧ sameQueues s t ∧ t.host = s.host ∧ t.ckSource = s.ckSource ∧
      t.env = rest

/-- 10_state.md R32, R35; 70_reset_and_hazards.md R247: which outputs the host may rely on, and that each is then the
state element of the same name. -/
def Obligations.HostOutputsUnderTheirFlags : Prop :=
  ∀ s : State, Inv s →
    (hostOut s).busy = s.busy ∧ (hostOut s).done = s.done ∧ (hostOut s).rs = s.rs.code ∧
    ((hostOut s).ackValid = true ↔ s.rs = .validated) ∧
    ((hostOut s).ackType.isSome = true ↔ s.rs = .validated) ∧
    ((hostOut s).ackQ1.isSome = true ↔ s.rs = .validated) ∧
    ((hostOut s).ackQ2.isSome = true ↔ s.rs = .validated) ∧
    (∀ a, s.ack = some a → (hostOut s).ackType = some a.typeReceived ∧ (hostOut s).ackQ1 = some a.q1 ∧
      (hostOut s).ackQ2 = some a.q2) ∧
    ((hostOut s).err.isSome = true ↔ s.done = true) ∧
    (∀ k, (hostOut s).err = some k → k = s.err.code) ∧
    ((hostOut s).terr.isSome = true ↔ s.done = true ∧ s.err = .transportFailure) ∧
    (∀ e, (hostOut s).terr = some e → e = s.terr) ∧
    ((hostOut s).txCount.isSome = true ↔ s.done = true ∧ s.opKind = .send ∧ s.err = .none) ∧
    (∀ n, (hostOut s).txCount = some n → n = s.txCount) ∧
    ((hostOut s).opKind.isSome = true ↔ s.done = true ∨ s.busy = true) ∧
    (∀ k, (hostOut s).opKind = some k → k = s.opKind.code)

/-! ## Invariants and whole-machine rules -/

/-- The invariants hold at reset. -/
def Obligations.InvariantsHoldAtReset : Prop := Inv State.reset ∧ TraceOk State.reset

/-- 42_ack_reader.md R165 (a) to (c), (e), (h); 10_state.md R22, R27, R28, R31, R32, R41, R42: every step keeps them. -/
def Obligations.StepKeepsInv : Prop :=
  ∀ s t : State, Inv s → step s = .next t → Inv t

/-- 42_ack_reader.md R166; 41_command_sender.md R130: every step keeps the trace in the shape the spec gives, each READ
at the threshold in force and with the budget then left as its timeout, FLUSH_READ last. -/
def Obligations.StepKeepsTraceShape : Prop :=
  ∀ s t : State, Inv s → TraceOk s → step s = .next t → TraceOk t

/-- 42_ack_reader.md R167; 43_transport_ops.md R192: the bounds on an RDACK's transactions, at every step of it. -/
def Obligations.RdackTransactionBounds : Prop :=
  ∀ s : State, Inv s → TraceOk s → s.opKind = .rdack →
    linesOf TraceLine.isPoll s.trace ≤ ceilQuanta (startTimeout s.trace) ∧
      linesOf TraceLine.isRead s.trace ≤ ceilQuanta (startTimeout s.trace) ∧
      linesOf TraceLine.isDelay s.trace ≤ ceilQuanta (startTimeout s.trace) ∧
      linesOf TraceLine.isFlushRead s.trace ≤ 1 ∧ linesOf TraceLine.isWriteSide s.trace = 0 ∧
      (s.ph = .idle → s.err = .none → linesOf TraceLine.isFlushRead s.trace = 0)

/-- 42_ack_reader.md R167; 70_reset_and_hazards.md R250: an RDACK that ended by an exhausted budget (its flush does not
follow a READ) made exactly `ceil(timeout / 100)` iterations. -/
def Obligations.ExhaustedBudgetIterations : Prop :=
  ∀ (s : State) (rest : List TraceLine), Inv s → TraceOk s → s.opKind = .rdack → s.ph = .idle → s.err = .ackTimeout →
    s.trace = .flushRead :: rest → (∀ len timeout data more, rest ≠ .read len timeout data :: more) →
    linesOf TraceLine.isPoll s.trace = ceilQuanta (startTimeout s.trace) ∧
      linesOf TraceLine.isDelay s.trace = ceilQuanta (startTimeout s.trace)

/-- 70_reset_and_hazards.md R252: inside an operation every step in which the block moves and goes on leaves fewer
transactions and delays to come, and a start leaves at most `3 * ceil(timeout / 100) + 1`. -/
def Obligations.OperationsTerminate : Prop :=
  (∀ s t : State, Inv s → s.busy = true → pending s ≠ none → step s = .next t → remaining t < remaining s) ∧
  (∀ (s t : State) (timeout : Millis), s.busy = false → exec (.rdack timeout) s = .next t →
    remaining t ≤ 3 * ceilQuanta timeout.toNat + 1)

/-- 42_ack_reader.md R162: every transition of `rs` is one of the table's, or a reset's (70 R230). A chunk is scanned in one
step (R150, 92 D20), so HUNTING to VALIDATED is two rows of the table run in that step: the marker's (HUNTING to
ACCUMULATING) and the scan's end (ACCUMULATING to VALIDATED). -/
def Obligations.ReaderStateTransitions : Prop :=
  ∀ s t : State, Inv s → step s = .next t →
    t.rs = s.rs ∨ (t.rs = .idle ∧ t.opKind = .none) ∨
      ((s.rs = .idle ∨ s.rs = .validated ∨ s.rs = .failed) ∧ s.busy = false ∧ t.rs = .hunting ∧ t.opKind = .rdack) ∨
      (s.rs = .hunting ∧ s.ph = .rRead ∧ (t.rs = .accumulating ∨ t.rs = .validated)) ∨
      (s.rs = .accumulating ∧ s.ph = .rRead ∧ t.rs = .validated) ∨
      ((s.rs = .hunting ∨ s.rs = .accumulating) ∧ s.busy = true ∧ t.rs = .failed)

/-- 10_state.md R28: every transition of `ph` is one of the table's, PH_R_HEAD folded into its predecessors, or a
reset's (70 R230). -/
def Obligations.PhaseTransitions : Prop :=
  ∀ s t : State, Inv s → step s = .next t →
    t.ph = s.ph ∨ (t.ph = .idle ∧ (s.ph ≠ .rDelay ∨ t.opKind = .none)) ∨
      (s.ph = .idle ∧ (t.ph = .sFlushW ∨ t.ph = .rAvail ∨ t.ph = .rFlushR)) ∨
      (s.ph = .sFlushW ∧ t.ph = .sWrite) ∨
      (s.ph = .rAvail ∧ (t.ph = .rDelay ∨ t.ph = .rRead)) ∨
      (s.ph = .rDelay ∧ (t.ph = .rAvail ∨ t.ph = .rFlushR)) ∨
      (s.ph = .rRead ∧ (t.ph = .rDelay ∨ t.ph = .rFlushR))

/-- 30_encoding.md R105; 60_exceptions.md R204: no step writes ACK_MISSING_DATA, from any state that does not hold it. -/
def Obligations.MissingDataIsNeverRaised : Prop :=
  ∀ s t : State, s.err ≠ .ackMissingData → s.perr ≠ .ackMissingData → step s = .next t →
    t.err ≠ .ackMissingData ∧ t.perr ≠ .ackMissingData

/-- 42_ack_reader.md R165 (g): within an operation `budget` never increases. -/
def Obligations.BudgetNeverIncreases : Prop :=
  ∀ s t : State, Inv s → s.busy = true → step s = .next t → t.budget.toNat ≤ s.budget.toNat

/-- 10_state.md R33: inside an RDACK the sender's elements are not touched by any step of the block. -/
def Obligations.RdackStepsLeaveTheSenderAlone : Prop :=
  ∀ s t : State, Inv s → s.ph.inLoop = true ∨ s.ph = .rFlushR → pending s ≠ none → step s = .next t →
    sameSender s t ∧ t.txq = s.txq

/-- 20_memory.md R77: what the block does depends on the answers, not on what the queues hold: on two states that differ
only in the queues every operation has the same outcome up to the queues. -/
def Obligations.BlockSeesOnlyTheAnswers : Prop :=
  ∀ (i : Instr) (s t : State) (rxq txq : List Byte), exec i s = .next t →
    ∃ rxq' txq', exec i { s with rxq := rxq, txq := txq } = .next { t with rxq := rxq', txq := txq' }

/-- 10_state.md R38, R40; 70_reset_and_hazards.md R237: inside an operation the host's inputs have no effect on any step
of the block. -/
def Obligations.HostInputsDoNotReachAnOperation : Prop :=
  ∀ (s t : State) (h : HostIn), Inv s → s.busy = true → pending s ≠ none → step s = .next t →
    step { s with host := h } = .next { t with host := h }

/-! ## Encoding -/

/-- Decode and encode agree: every well-formed instruction, every operand at every value its encoding admits, is read back;
and the bytes of a frame, or a byte in its context, that decode to an instruction are the ones it is encoded as, so that
no bit of them is dropped (30_encoding.md R91, R92, R97, R101, R102, R106, R107). -/
def Obligations.DecodeAndEncodeAgree : Prop :=
  (∀ i : Instr, i.wellFormed = true → decode (encode i) = .ok i) ∧
  (∀ (bytes : List Byte) (i : Instr), decode (.wire bytes) = .ok i → encode i = .wire bytes) ∧
  (∀ (c : ScanCtx) (b : Byte) (i : Instr), decode (.scan c b) = .ok i → encode i = .scan c b)

/-- 30_encoding.md R90 to R92: the two frame formats as 64-bit pictures, byte 0 in bits 63 to 56: the opcode table's
words of CMD and ACK decode to the frames they picture, and a picture holds eight bytes without loss. -/
def Obligations.FramePicturesDecode : Prop :=
  (∀ f : Buf, frameOfPicture (framePicture f) = f) ∧
  (∀ p : BitVec 64, framePicture (frameOfPicture p) = p) ∧
  (∀ c a b d k : Byte,
    decodeTableWord 64 (framePicture ⟨0, c, a, b, d, 0, k, 0⟩).toNat = some (.cmd c a b d k)) ∧
  (∀ t q r u v k w : Byte,
    decodeTableWord 64 (framePicture ⟨0xF5, t, q, r, u, v, k, w⟩).toNat = some (.ack t q r u v k (some w)))

/-- 30_encoding.md R91, R92, R97, R101, R102: a few words written out from the spec's encodings. -/
def Obligations.SampleWordsDecode : Prop :=
  decode (.wire [0x00, 0x2D, 0x12, 0x34, 0x56, 0x00, 0x5D, 0x00]) = .ok (.cmd 0x2D 0x12 0x34 0x56 0x5D) ∧
    decode (.wire [0xF5, 0x10, 0x03, 0x00, 0x00, 0x00, 0x13, 0x00]) =
      .ok (.ack 0x10 0x03 0x00 0x00 0x00 0x13 (some 0x00)) ∧
    decode (.scan .hunting 0b11110101) = .ok .huntSync ∧
    decode (.host { start := true, op := 0b01, code := 0x09 }) = .ok (.send 0x09 0 0 0 0) ∧
    decode (.transport { req := true, op := 0b011, len := 8, timeout := 900 }) = .ok (.read 8 900) ∧
    decode (.host { start := true, op := 0b11 }) = .error .hostReserved ∧
    decode (.transport { req := true, op := 0b101 }) = .error .transportReserved

/-! ## The transport's named assumptions -/

/-- 43_transport_ops.md R190: the plain transport is all six assumptions together (for at most 65535 buffered bytes,
the largest count the port holds, R181). `issued` is the state in which the request was issued; since then bytes have only
been appended to `rxq` (20_memory.md R62). The answer is taken by the operation presented, which completes, and a READ
removes exactly the bytes it answered with. That `|rxq|` is measured when the answer is presented is the model's choice
(DESIGN CHOICE, unsafe, notes/assumptions/22.md). -/
def Obligations.PlainTransportMeetsItsAssumptions : Prop :=
  ∀ issued s t : State, t = { s with trsp := plainAnswer s } → s.rxq.length ≤ 65535 →
    (s.treq.op = TOp.read.code ∨ s.treq.op = TOp.write.code → s.treq.len = 8) →
    issued.treq = s.treq → issued.rxq.length ≤ s.rxq.length →
    (∀ i, decode (.transport t.treq) = .ok i → ∃ u, exec i t = .next u ∧ tFifo t u) ∧
      tCount t ∧ tNonblocking issued t ∧ tGreedy t ∧ tNofail t ∧ tFullwrite t

/-- 43_transport_ops.md R190, last sentence: under T_COUNT and T_NONBLOCKING the zero-byte path is unreachable: a byte is
buffered when a READ is issued, no step takes it away while that READ is outstanding, and whatever state `u` answers it
does not answer 0 bytes. T_COUNT measures `|rxq|` when the answer is presented, the model's choice (DESIGN CHOICE, unsafe,
notes/assumptions/22.md). -/
def Obligations.ZeroByteReadUnreachable : Prop :=
  (∀ s t : State, Inv s → tCount s → step s = .next t → s.ph ≠ .rRead → t.ph = .rRead → 1 ≤ t.rxq.length) ∧
  (∀ s t : State, Inv s → step s = .next t → s.ph = .rRead → t.ph = .rRead →
    s.rxq.length ≤ t.rxq.length ∧ t.treq = s.treq) ∧
  (∀ s t u : State, Inv s → tCount s → step s = .next t → s.ph ≠ .rRead → t.ph = .rRead → tNonblocking t u →
    ¬ answeredOk 0 u)
end

