-- ==== Sys2Proof/Laws/State.lean ====
section
/-! SUPPORT. For every named update of the state, one lemma for each field: what the field holds afterwards. -/

namespace Sys2Proof.Machine

/-- The state with the three elements a scan writes (42_ack_reader.md R150) as given. -/
def withReader (rs : ReaderState) (acc : Buf) (accLen : Nat) (s : State) : State :=
  { s with rs := rs, acc := acc, accLen := accLen }

/-! ### `issue` -/

@[simp] theorem issue_acc (ph : Phase) (op : TOp) (len : BitVec 4) (timeout : Millis) (wdata : Buf) (s : State) : (issue ph op len timeout wdata s).acc = s.acc := rfl
@[simp] theorem issue_accLen (ph : Phase) (op : TOp) (len : BitVec 4) (timeout : Millis) (wdata : Buf) (s : State) : (issue ph op len timeout wdata s).accLen = s.accLen := rfl
@[simp] theorem issue_scr (ph : Phase) (op : TOp) (len : BitVec 4) (timeout : Millis) (wdata : Buf) (s : State) : (issue ph op len timeout wdata s).scr = s.scr := rfl
@[simp] theorem issue_scrN (ph : Phase) (op : TOp) (len : BitVec 4) (timeout : Millis) (wdata : Buf) (s : State) : (issue ph op len timeout wdata s).scrN = s.scrN := rfl
@[simp] theorem issue_txf (ph : Phase) (op : TOp) (len : BitVec 4) (timeout : Millis) (wdata : Buf) (s : State) : (issue ph op len timeout wdata s).txf = s.txf := rfl
@[simp] theorem issue_txCount (ph : Phase) (op : TOp) (len : BitVec 4) (timeout : Millis) (wdata : Buf) (s : State) : (issue ph op len timeout wdata s).txCount = s.txCount := rfl
@[simp] theorem issue_budget (ph : Phase) (op : TOp) (len : BitVec 4) (timeout : Millis) (wdata : Buf) (s : State) : (issue ph op len timeout wdata s).budget = s.budget := rfl
@[simp] theorem issue_rs (ph : Phase) (op : TOp) (len : BitVec 4) (timeout : Millis) (wdata : Buf) (s : State) : (issue ph op len timeout wdata s).rs = s.rs := rfl
@[simp] theorem issue_ph (ph : Phase) (op : TOp) (len : BitVec 4) (timeout : Millis) (wdata : Buf) (s : State) : (issue ph op len timeout wdata s).ph = ph := rfl
@[simp] theorem issue_perr (ph : Phase) (op : TOp) (len : BitVec 4) (timeout : Millis) (wdata : Buf) (s : State) : (issue ph op len timeout wdata s).perr = s.perr := rfl
@[simp] theorem issue_err (ph : Phase) (op : TOp) (len : BitVec 4) (timeout : Millis) (wdata : Buf) (s : State) : (issue ph op len timeout wdata s).err = s.err := rfl
@[simp] theorem issue_terr (ph : Phase) (op : TOp) (len : BitVec 4) (timeout : Millis) (wdata : Buf) (s : State) : (issue ph op len timeout wdata s).terr = s.terr := rfl
@[simp] theorem issue_busy (ph : Phase) (op : TOp) (len : BitVec 4) (timeout : Millis) (wdata : Buf) (s : State) : (issue ph op len timeout wdata s).busy = s.busy := rfl
@[simp] theorem issue_done (ph : Phase) (op : TOp) (len : BitVec 4) (timeout : Millis) (wdata : Buf) (s : State) : (issue ph op len timeout wdata s).done = s.done := rfl
@[simp] theorem issue_ack (ph : Phase) (op : TOp) (len : BitVec 4) (timeout : Millis) (wdata : Buf) (s : State) : (issue ph op len timeout wdata s).ack = s.ack := rfl
@[simp] theorem issue_opCode (ph : Phase) (op : TOp) (len : BitVec 4) (timeout : Millis) (wdata : Buf) (s : State) : (issue ph op len timeout wdata s).opCode = s.opCode := rfl
@[simp] theorem issue_opP0 (ph : Phase) (op : TOp) (len : BitVec 4) (timeout : Millis) (wdata : Buf) (s : State) : (issue ph op len timeout wdata s).opP0 = s.opP0 := rfl
@[simp] theorem issue_opP1 (ph : Phase) (op : TOp) (len : BitVec 4) (timeout : Millis) (wdata : Buf) (s : State) : (issue ph op len timeout wdata s).opP1 = s.opP1 := rfl
@[simp] theorem issue_opP2 (ph : Phase) (op : TOp) (len : BitVec 4) (timeout : Millis) (wdata : Buf) (s : State) : (issue ph op len timeout wdata s).opP2 = s.opP2 := rfl
@[simp] theorem issue_opKind (ph : Phase) (op : TOp) (len : BitVec 4) (timeout : Millis) (wdata : Buf) (s : State) : (issue ph op len timeout wdata s).opKind = s.opKind := rfl
@[simp] theorem issue_host (ph : Phase) (op : TOp) (len : BitVec 4) (timeout : Millis) (wdata : Buf) (s : State) : (issue ph op len timeout wdata s).host = s.host := rfl
@[simp] theorem issue_treq (ph : Phase) (op : TOp) (len : BitVec 4) (timeout : Millis) (wdata : Buf) (s : State) : (issue ph op len timeout wdata s).treq = { req := true, op := op.code, len := len, timeout := timeout, wdata := wdata } := rfl
@[simp] theorem issue_trsp (ph : Phase) (op : TOp) (len : BitVec 4) (timeout : Millis) (wdata : Buf) (s : State) : (issue ph op len timeout wdata s).trsp = { s.trsp with rsp := false } := rfl
@[simp] theorem issue_dly (ph : Phase) (op : TOp) (len : BitVec 4) (timeout : Millis) (wdata : Buf) (s : State) : (issue ph op len timeout wdata s).dly = s.dly := rfl
@[simp] theorem issue_rxq (ph : Phase) (op : TOp) (len : BitVec 4) (timeout : Millis) (wdata : Buf) (s : State) : (issue ph op len timeout wdata s).rxq = s.rxq := rfl
@[simp] theorem issue_txq (ph : Phase) (op : TOp) (len : BitVec 4) (timeout : Millis) (wdata : Buf) (s : State) : (issue ph op len timeout wdata s).txq = s.txq := rfl
@[simp] theorem issue_ckSource (ph : Phase) (op : TOp) (len : BitVec 4) (timeout : Millis) (wdata : Buf) (s : State) : (issue ph op len timeout wdata s).ckSource = s.ckSource := rfl
@[simp] theorem issue_ckOut (ph : Phase) (op : TOp) (len : BitVec 4) (timeout : Millis) (wdata : Buf) (s : State) : (issue ph op len timeout wdata s).ckOut = s.ckOut := rfl
@[simp] theorem issue_env (ph : Phase) (op : TOp) (len : BitVec 4) (timeout : Millis) (wdata : Buf) (s : State) : (issue ph op len timeout wdata s).env = s.env := rfl
@[simp] theorem issue_direct (ph : Phase) (op : TOp) (len : BitVec 4) (timeout : Millis) (wdata : Buf) (s : State) : (issue ph op len timeout wdata s).direct = s.direct := rfl
@[simp] theorem issue_fresh (ph : Phase) (op : TOp) (len : BitVec 4) (timeout : Millis) (wdata : Buf) (s : State) : (issue ph op len timeout wdata s).fresh = s.fresh := rfl
@[simp] theorem issue_trace (ph : Phase) (op : TOp) (len : BitVec 4) (timeout : Millis) (wdata : Buf) (s : State) : (issue ph op len timeout wdata s).trace = s.trace := rfl

/-! ### `takeAnswer` -/

@[simp] theorem takeAnswer_acc (s : State) : (takeAnswer s).acc = s.acc := rfl
@[simp] theorem takeAnswer_accLen (s : State) : (takeAnswer s).accLen = s.accLen := rfl
@[simp] theorem takeAnswer_scr (s : State) : (takeAnswer s).scr = s.scr := rfl
@[simp] theorem takeAnswer_scrN (s : State) : (takeAnswer s).scrN = s.scrN := rfl
@[simp] theorem takeAnswer_txf (s : State) : (takeAnswer s).txf = s.txf := rfl
@[simp] theorem takeAnswer_txCount (s : State) : (takeAnswer s).txCount = s.txCount := rfl
@[simp] theorem takeAnswer_budget (s : State) : (takeAnswer s).budget = s.budget := rfl
@[simp] theorem takeAnswer_rs (s : State) : (takeAnswer s).rs = s.rs := rfl
@[simp] theorem takeAnswer_ph (s : State) : (takeAnswer s).ph = s.ph := rfl
@[simp] theorem takeAnswer_perr (s : State) : (takeAnswer s).perr = s.perr := rfl
@[simp] theorem takeAnswer_err (s : State) : (takeAnswer s).err = s.err := rfl
@[simp] theorem takeAnswer_terr (s : State) : (takeAnswer s).terr = s.terr := rfl
@[simp] theorem takeAnswer_busy (s : State) : (takeAnswer s).busy = s.busy := rfl
@[simp] theorem takeAnswer_done (s : State) : (takeAnswer s).done = s.done := rfl
@[simp] theorem takeAnswer_ack (s : State) : (takeAnswer s).ack = s.ack := rfl
@[simp] theorem takeAnswer_opCode (s : State) : (takeAnswer s).opCode = s.opCode := rfl
@[simp] theorem takeAnswer_opP0 (s : State) : (takeAnswer s).opP0 = s.opP0 := rfl
@[simp] theorem takeAnswer_opP1 (s : State) : (takeAnswer s).opP1 = s.opP1 := rfl
@[simp] theorem takeAnswer_opP2 (s : State) : (takeAnswer s).opP2 = s.opP2 := rfl
@[simp] theorem takeAnswer_opKind (s : State) : (takeAnswer s).opKind = s.opKind := rfl
@[simp] theorem takeAnswer_host (s : State) : (takeAnswer s).host = s.host := rfl
@[simp] theorem takeAnswer_treq (s : State) : (takeAnswer s).treq = { s.treq with req := false } := rfl
@[simp] theorem takeAnswer_trsp (s : State) : (takeAnswer s).trsp = { s.trsp with rsp := false } := rfl
@[simp] theorem takeAnswer_dly (s : State) : (takeAnswer s).dly = s.dly := rfl
@[simp] theorem takeAnswer_rxq (s : State) : (takeAnswer s).rxq = s.rxq := rfl
@[simp] theorem takeAnswer_txq (s : State) : (takeAnswer s).txq = s.txq := rfl
@[simp] theorem takeAnswer_ckSource (s : State) : (takeAnswer s).ckSource = s.ckSource := rfl
@[simp] theorem takeAnswer_ckOut (s : State) : (takeAnswer s).ckOut = s.ckOut := rfl
@[simp] theorem takeAnswer_env (s : State) : (takeAnswer s).env = s.env := rfl
@[simp] theorem takeAnswer_direct (s : State) : (takeAnswer s).direct = s.direct := rfl
@[simp] theorem takeAnswer_fresh (s : State) : (takeAnswer s).fresh = s.fresh := rfl
@[simp] theorem takeAnswer_trace (s : State) : (takeAnswer s).trace = s.trace := rfl

/-! ### `takeDelay` -/

@[simp] theorem takeDelay_acc (s : State) : (takeDelay s).acc = s.acc := rfl
@[simp] theorem takeDelay_accLen (s : State) : (takeDelay s).accLen = s.accLen := rfl
@[simp] theorem takeDelay_scr (s : State) : (takeDelay s).scr = s.scr := rfl
@[simp] theorem takeDelay_scrN (s : State) : (takeDelay s).scrN = s.scrN := rfl
@[simp] theorem takeDelay_txf (s : State) : (takeDelay s).txf = s.txf := rfl
@[simp] theorem takeDelay_txCount (s : State) : (takeDelay s).txCount = s.txCount := rfl
@[simp] theorem takeDelay_budget (s : State) : (takeDelay s).budget = s.budget := rfl
@[simp] theorem takeDelay_rs (s : State) : (takeDelay s).rs = s.rs := rfl
@[simp] theorem takeDelay_ph (s : State) : (takeDelay s).ph = s.ph := rfl
@[simp] theorem takeDelay_perr (s : State) : (takeDelay s).perr = s.perr := rfl
@[simp] theorem takeDelay_err (s : State) : (takeDelay s).err = s.err := rfl
@[simp] theorem takeDelay_terr (s : State) : (takeDelay s).terr = s.terr := rfl
@[simp] theorem takeDelay_busy (s : State) : (takeDelay s).busy = s.busy := rfl
@[simp] theorem takeDelay_done (s : State) : (takeDelay s).done = s.done := rfl
@[simp] theorem takeDelay_ack (s : State) : (takeDelay s).ack = s.ack := rfl
@[simp] theorem takeDelay_opCode (s : State) : (takeDelay s).opCode = s.opCode := rfl
@[simp] theorem takeDelay_opP0 (s : State) : (takeDelay s).opP0 = s.opP0 := rfl
@[simp] theorem takeDelay_opP1 (s : State) : (takeDelay s).opP1 = s.opP1 := rfl
@[simp] theorem takeDelay_opP2 (s : State) : (takeDelay s).opP2 = s.opP2 := rfl
@[simp] theorem takeDelay_opKind (s : State) : (takeDelay s).opKind = s.opKind := rfl
@[simp] theorem takeDelay_host (s : State) : (takeDelay s).host = s.host := rfl
@[simp] theorem takeDelay_treq (s : State) : (takeDelay s).treq = s.treq := rfl
@[simp] theorem takeDelay_trsp (s : State) : (takeDelay s).trsp = s.trsp := rfl
@[simp] theorem takeDelay_dly (s : State) : (takeDelay s).dly = { s.dly with req := false, done := false } := rfl
@[simp] theorem takeDelay_rxq (s : State) : (takeDelay s).rxq = s.rxq := rfl
@[simp] theorem takeDelay_txq (s : State) : (takeDelay s).txq = s.txq := rfl
@[simp] theorem takeDelay_ckSource (s : State) : (takeDelay s).ckSource = s.ckSource := rfl
@[simp] theorem takeDelay_ckOut (s : State) : (takeDelay s).ckOut = s.ckOut := rfl
@[simp] theorem takeDelay_env (s : State) : (takeDelay s).env = s.env := rfl
@[simp] theorem takeDelay_direct (s : State) : (takeDelay s).direct = s.direct := rfl
@[simp] theorem takeDelay_fresh (s : State) : (takeDelay s).fresh = s.fresh := rfl
@[simp] theorem takeDelay_trace (s : State) : (takeDelay s).trace = s.trace := rfl

/-! ### `record` -/

@[simp] theorem record_acc (l : TraceLine) (s : State) : (record l s).acc = s.acc := rfl
@[simp] theorem record_accLen (l : TraceLine) (s : State) : (record l s).accLen = s.accLen := rfl
@[simp] theorem record_scr (l : TraceLine) (s : State) : (record l s).scr = s.scr := rfl
@[simp] theorem record_scrN (l : TraceLine) (s : State) : (record l s).scrN = s.scrN := rfl
@[simp] theorem record_txf (l : TraceLine) (s : State) : (record l s).txf = s.txf := rfl
@[simp] theorem record_txCount (l : TraceLine) (s : State) : (record l s).txCount = s.txCount := rfl
@[simp] theorem record_budget (l : TraceLine) (s : State) : (record l s).budget = s.budget := rfl
@[simp] theorem record_rs (l : TraceLine) (s : State) : (record l s).rs = s.rs := rfl
@[simp] theorem record_ph (l : TraceLine) (s : State) : (record l s).ph = s.ph := rfl
@[simp] theorem record_perr (l : TraceLine) (s : State) : (record l s).perr = s.perr := rfl
@[simp] theorem record_err (l : TraceLine) (s : State) : (record l s).err = s.err := rfl
@[simp] theorem record_terr (l : TraceLine) (s : State) : (record l s).terr = s.terr := rfl
@[simp] theorem record_busy (l : TraceLine) (s : State) : (record l s).busy = s.busy := rfl
@[simp] theorem record_done (l : TraceLine) (s : State) : (record l s).done = s.done := rfl
@[simp] theorem record_ack (l : TraceLine) (s : State) : (record l s).ack = s.ack := rfl
@[simp] theorem record_opCode (l : TraceLine) (s : State) : (record l s).opCode = s.opCode := rfl
@[simp] theorem record_opP0 (l : TraceLine) (s : State) : (record l s).opP0 = s.opP0 := rfl
@[simp] theorem record_opP1 (l : TraceLine) (s : State) : (record l s).opP1 = s.opP1 := rfl
@[simp] theorem record_opP2 (l : TraceLine) (s : State) : (record l s).opP2 = s.opP2 := rfl
@[simp] theorem record_opKind (l : TraceLine) (s : State) : (record l s).opKind = s.opKind := rfl
@[simp] theorem record_host (l : TraceLine) (s : State) : (record l s).host = s.host := rfl
@[simp] theorem record_treq (l : TraceLine) (s : State) : (record l s).treq = s.treq := rfl
@[simp] theorem record_trsp (l : TraceLine) (s : State) : (record l s).trsp = s.trsp := rfl
@[simp] theorem record_dly (l : TraceLine) (s : State) : (record l s).dly = s.dly := rfl
@[simp] theorem record_rxq (l : TraceLine) (s : State) : (record l s).rxq = s.rxq := rfl
@[simp] theorem record_txq (l : TraceLine) (s : State) : (record l s).txq = s.txq := rfl
@[simp] theorem record_ckSource (l : TraceLine) (s : State) : (record l s).ckSource = s.ckSource := rfl
@[simp] theorem record_ckOut (l : TraceLine) (s : State) : (record l s).ckOut = s.ckOut := rfl
@[simp] theorem record_env (l : TraceLine) (s : State) : (record l s).env = s.env := rfl
@[simp] theorem record_direct (l : TraceLine) (s : State) : (record l s).direct = s.direct := rfl
@[simp] theorem record_fresh (l : TraceLine) (s : State) : (record l s).fresh = s.fresh := rfl
@[simp] theorem record_trace (l : TraceLine) (s : State) : (record l s).trace = l :: s.trace := rfl

/-! ### `popRx` -/

@[simp] theorem popRx_acc (n : Nat) (s : State) : (popRx n s).acc = s.acc := rfl
@[simp] theorem popRx_accLen (n : Nat) (s : State) : (popRx n s).accLen = s.accLen := rfl
@[simp] theorem popRx_scr (n : Nat) (s : State) : (popRx n s).scr = s.scr := rfl
@[simp] theorem popRx_scrN (n : Nat) (s : State) : (popRx n s).scrN = s.scrN := rfl
@[simp] theorem popRx_txf (n : Nat) (s : State) : (popRx n s).txf = s.txf := rfl
@[simp] theorem popRx_txCount (n : Nat) (s : State) : (popRx n s).txCount = s.txCount := rfl
@[simp] theorem popRx_budget (n : Nat) (s : State) : (popRx n s).budget = s.budget := rfl
@[simp] theorem popRx_rs (n : Nat) (s : State) : (popRx n s).rs = s.rs := rfl
@[simp] theorem popRx_ph (n : Nat) (s : State) : (popRx n s).ph = s.ph := rfl
@[simp] theorem popRx_perr (n : Nat) (s : State) : (popRx n s).perr = s.perr := rfl
@[simp] theorem popRx_err (n : Nat) (s : State) : (popRx n s).err = s.err := rfl
@[simp] theorem popRx_terr (n : Nat) (s : State) : (popRx n s).terr = s.terr := rfl
@[simp] theorem popRx_busy (n : Nat) (s : State) : (popRx n s).busy = s.busy := rfl
@[simp] theorem popRx_done (n : Nat) (s : State) : (popRx n s).done = s.done := rfl
@[simp] theorem popRx_ack (n : Nat) (s : State) : (popRx n s).ack = s.ack := rfl
@[simp] theorem popRx_opCode (n : Nat) (s : State) : (popRx n s).opCode = s.opCode := rfl
@[simp] theorem popRx_opP0 (n : Nat) (s : State) : (popRx n s).opP0 = s.opP0 := rfl
@[simp] theorem popRx_opP1 (n : Nat) (s : State) : (popRx n s).opP1 = s.opP1 := rfl
@[simp] theorem popRx_opP2 (n : Nat) (s : State) : (popRx n s).opP2 = s.opP2 := rfl
@[simp] theorem popRx_opKind (n : Nat) (s : State) : (popRx n s).opKind = s.opKind := rfl
@[simp] theorem popRx_host (n : Nat) (s : State) : (popRx n s).host = s.host := rfl
@[simp] theorem popRx_treq (n : Nat) (s : State) : (popRx n s).treq = s.treq := rfl
@[simp] theorem popRx_trsp (n : Nat) (s : State) : (popRx n s).trsp = s.trsp := rfl
@[simp] theorem popRx_dly (n : Nat) (s : State) : (popRx n s).dly = s.dly := rfl
@[simp] theorem popRx_rxq (n : Nat) (s : State) : (popRx n s).rxq = s.rxq.drop n := rfl
@[simp] theorem popRx_txq (n : Nat) (s : State) : (popRx n s).txq = s.txq := rfl
@[simp] theorem popRx_ckSource (n : Nat) (s : State) : (popRx n s).ckSource = s.ckSource := rfl
@[simp] theorem popRx_ckOut (n : Nat) (s : State) : (popRx n s).ckOut = s.ckOut := rfl
@[simp] theorem popRx_env (n : Nat) (s : State) : (popRx n s).env = s.env := rfl
@[simp] theorem popRx_direct (n : Nat) (s : State) : (popRx n s).direct = s.direct := rfl
@[simp] theorem popRx_fresh (n : Nat) (s : State) : (popRx n s).fresh = s.fresh := rfl
@[simp] theorem popRx_trace (n : Nat) (s : State) : (popRx n s).trace = s.trace := rfl

/-! ### `clearRx` -/

@[simp] theorem clearRx_acc (s : State) : (clearRx s).acc = s.acc := rfl
@[simp] theorem clearRx_accLen (s : State) : (clearRx s).accLen = s.accLen := rfl
@[simp] theorem clearRx_scr (s : State) : (clearRx s).scr = s.scr := rfl
@[simp] theorem clearRx_scrN (s : State) : (clearRx s).scrN = s.scrN := rfl
@[simp] theorem clearRx_txf (s : State) : (clearRx s).txf = s.txf := rfl
@[simp] theorem clearRx_txCount (s : State) : (clearRx s).txCount = s.txCount := rfl
@[simp] theorem clearRx_budget (s : State) : (clearRx s).budget = s.budget := rfl
@[simp] theorem clearRx_rs (s : State) : (clearRx s).rs = s.rs := rfl
@[simp] theorem clearRx_ph (s : State) : (clearRx s).ph = s.ph := rfl
@[simp] theorem clearRx_perr (s : State) : (clearRx s).perr = s.perr := rfl
@[simp] theorem clearRx_err (s : State) : (clearRx s).err = s.err := rfl
@[simp] theorem clearRx_terr (s : State) : (clearRx s).terr = s.terr := rfl
@[simp] theorem clearRx_busy (s : State) : (clearRx s).busy = s.busy := rfl
@[simp] theorem clearRx_done (s : State) : (clearRx s).done = s.done := rfl
@[simp] theorem clearRx_ack (s : State) : (clearRx s).ack = s.ack := rfl
@[simp] theorem clearRx_opCode (s : State) : (clearRx s).opCode = s.opCode := rfl
@[simp] theorem clearRx_opP0 (s : State) : (clearRx s).opP0 = s.opP0 := rfl
@[simp] theorem clearRx_opP1 (s : State) : (clearRx s).opP1 = s.opP1 := rfl
@[simp] theorem clearRx_opP2 (s : State) : (clearRx s).opP2 = s.opP2 := rfl
@[simp] theorem clearRx_opKind (s : State) : (clearRx s).opKind = s.opKind := rfl
@[simp] theorem clearRx_host (s : State) : (clearRx s).host = s.host := rfl
@[simp] theorem clearRx_treq (s : State) : (clearRx s).treq = s.treq := rfl
@[simp] theorem clearRx_trsp (s : State) : (clearRx s).trsp = s.trsp := rfl
@[simp] theorem clearRx_dly (s : State) : (clearRx s).dly = s.dly := rfl
@[simp] theorem clearRx_rxq (s : State) : (clearRx s).rxq = [] := rfl
@[simp] theorem clearRx_txq (s : State) : (clearRx s).txq = s.txq := rfl
@[simp] theorem clearRx_ckSource (s : State) : (clearRx s).ckSource = s.ckSource := rfl
@[simp] theorem clearRx_ckOut (s : State) : (clearRx s).ckOut = s.ckOut := rfl
@[simp] theorem clearRx_env (s : State) : (clearRx s).env = s.env := rfl
@[simp] theorem clearRx_direct (s : State) : (clearRx s).direct = s.direct := rfl
@[simp] theorem clearRx_fresh (s : State) : (clearRx s).fresh = s.fresh := rfl
@[simp] theorem clearRx_trace (s : State) : (clearRx s).trace = s.trace := rfl

/-! ### `clearTx` -/

@[simp] theorem clearTx_acc (s : State) : (clearTx s).acc = s.acc := rfl
@[simp] theorem clearTx_accLen (s : State) : (clearTx s).accLen = s.accLen := rfl
@[simp] theorem clearTx_scr (s : State) : (clearTx s).scr = s.scr := rfl
@[simp] theorem clearTx_scrN (s : State) : (clearTx s).scrN = s.scrN := rfl
@[simp] theorem clearTx_txf (s : State) : (clearTx s).txf = s.txf := rfl
@[simp] theorem clearTx_txCount (s : State) : (clearTx s).txCount = s.txCount := rfl
@[simp] theorem clearTx_budget (s : State) : (clearTx s).budget = s.budget := rfl
@[simp] theorem clearTx_rs (s : State) : (clearTx s).rs = s.rs := rfl
@[simp] theorem clearTx_ph (s : State) : (clearTx s).ph = s.ph := rfl
@[simp] theorem clearTx_perr (s : State) : (clearTx s).perr = s.perr := rfl
@[simp] theorem clearTx_err (s : State) : (clearTx s).err = s.err := rfl
@[simp] theorem clearTx_terr (s : State) : (clearTx s).terr = s.terr := rfl
@[simp] theorem clearTx_busy (s : State) : (clearTx s).busy = s.busy := rfl
@[simp] theorem clearTx_done (s : State) : (clearTx s).done = s.done := rfl
@[simp] theorem clearTx_ack (s : State) : (clearTx s).ack = s.ack := rfl
@[simp] theorem clearTx_opCode (s : State) : (clearTx s).opCode = s.opCode := rfl
@[simp] theorem clearTx_opP0 (s : State) : (clearTx s).opP0 = s.opP0 := rfl
@[simp] theorem clearTx_opP1 (s : State) : (clearTx s).opP1 = s.opP1 := rfl
@[simp] theorem clearTx_opP2 (s : State) : (clearTx s).opP2 = s.opP2 := rfl
@[simp] theorem clearTx_opKind (s : State) : (clearTx s).opKind = s.opKind := rfl
@[simp] theorem clearTx_host (s : State) : (clearTx s).host = s.host := rfl
@[simp] theorem clearTx_treq (s : State) : (clearTx s).treq = s.treq := rfl
@[simp] theorem clearTx_trsp (s : State) : (clearTx s).trsp = s.trsp := rfl
@[simp] theorem clearTx_dly (s : State) : (clearTx s).dly = s.dly := rfl
@[simp] theorem clearTx_rxq (s : State) : (clearTx s).rxq = s.rxq := rfl
@[simp] theorem clearTx_txq (s : State) : (clearTx s).txq = [] := rfl
@[simp] theorem clearTx_ckSource (s : State) : (clearTx s).ckSource = s.ckSource := rfl
@[simp] theorem clearTx_ckOut (s : State) : (clearTx s).ckOut = s.ckOut := rfl
@[simp] theorem clearTx_env (s : State) : (clearTx s).env = s.env := rfl
@[simp] theorem clearTx_direct (s : State) : (clearTx s).direct = s.direct := rfl
@[simp] theorem clearTx_fresh (s : State) : (clearTx s).fresh = s.fresh := rfl
@[simp] theorem clearTx_trace (s : State) : (clearTx s).trace = s.trace := rfl

/-! ### `pushRx` -/

@[simp] theorem pushRx_acc (bytes : List Byte) (s : State) : (pushRx bytes s).acc = s.acc := rfl
@[simp] theorem pushRx_accLen (bytes : List Byte) (s : State) : (pushRx bytes s).accLen = s.accLen := rfl
@[simp] theorem pushRx_scr (bytes : List Byte) (s : State) : (pushRx bytes s).scr = s.scr := rfl
@[simp] theorem pushRx_scrN (bytes : List Byte) (s : State) : (pushRx bytes s).scrN = s.scrN := rfl
@[simp] theorem pushRx_txf (bytes : List Byte) (s : State) : (pushRx bytes s).txf = s.txf := rfl
@[simp] theorem pushRx_txCount (bytes : List Byte) (s : State) : (pushRx bytes s).txCount = s.txCount := rfl
@[simp] theorem pushRx_budget (bytes : List Byte) (s : State) : (pushRx bytes s).budget = s.budget := rfl
@[simp] theorem pushRx_rs (bytes : List Byte) (s : State) : (pushRx bytes s).rs = s.rs := rfl
@[simp] theorem pushRx_ph (bytes : List Byte) (s : State) : (pushRx bytes s).ph = s.ph := rfl
@[simp] theorem pushRx_perr (bytes : List Byte) (s : State) : (pushRx bytes s).perr = s.perr := rfl
@[simp] theorem pushRx_err (bytes : List Byte) (s : State) : (pushRx bytes s).err = s.err := rfl
@[simp] theorem pushRx_terr (bytes : List Byte) (s : State) : (pushRx bytes s).terr = s.terr := rfl
@[simp] theorem pushRx_busy (bytes : List Byte) (s : State) : (pushRx bytes s).busy = s.busy := rfl
@[simp] theorem pushRx_done (bytes : List Byte) (s : State) : (pushRx bytes s).done = s.done := rfl
@[simp] theorem pushRx_ack (bytes : List Byte) (s : State) : (pushRx bytes s).ack = s.ack := rfl
@[simp] theorem pushRx_opCode (bytes : List Byte) (s : State) : (pushRx bytes s).opCode = s.opCode := rfl
@[simp] theorem pushRx_opP0 (bytes : List Byte) (s : State) : (pushRx bytes s).opP0 = s.opP0 := rfl
@[simp] theorem pushRx_opP1 (bytes : List Byte) (s : State) : (pushRx bytes s).opP1 = s.opP1 := rfl
@[simp] theorem pushRx_opP2 (bytes : List Byte) (s : State) : (pushRx bytes s).opP2 = s.opP2 := rfl
@[simp] theorem pushRx_opKind (bytes : List Byte) (s : State) : (pushRx bytes s).opKind = s.opKind := rfl
@[simp] theorem pushRx_host (bytes : List Byte) (s : State) : (pushRx bytes s).host = s.host := rfl
@[simp] theorem pushRx_treq (bytes : List Byte) (s : State) : (pushRx bytes s).treq = s.treq := rfl
@[simp] theorem pushRx_trsp (bytes : List Byte) (s : State) : (pushRx bytes s).trsp = s.trsp := rfl
@[simp] theorem pushRx_dly (bytes : List Byte) (s : State) : (pushRx bytes s).dly = s.dly := rfl
@[simp] theorem pushRx_rxq (bytes : List Byte) (s : State) : (pushRx bytes s).rxq = s.rxq ++ bytes := rfl
@[simp] theorem pushRx_txq (bytes : List Byte) (s : State) : (pushRx bytes s).txq = s.txq := rfl
@[simp] theorem pushRx_ckSource (bytes : List Byte) (s : State) : (pushRx bytes s).ckSource = s.ckSource := rfl
@[simp] theorem pushRx_ckOut (bytes : List Byte) (s : State) : (pushRx bytes s).ckOut = s.ckOut := rfl
@[simp] theorem pushRx_env (bytes : List Byte) (s : State) : (pushRx bytes s).env = s.env := rfl
@[simp] theorem pushRx_direct (bytes : List Byte) (s : State) : (pushRx bytes s).direct = s.direct := rfl
@[simp] theorem pushRx_fresh (bytes : List Byte) (s : State) : (pushRx bytes s).fresh = s.fresh := rfl
@[simp] theorem pushRx_trace (bytes : List Byte) (s : State) : (pushRx bytes s).trace = s.trace := rfl

/-! ### `pushTx` -/

@[simp] theorem pushTx_acc (bytes : List Byte) (s : State) : (pushTx bytes s).acc = s.acc := rfl
@[simp] theorem pushTx_accLen (bytes : List Byte) (s : State) : (pushTx bytes s).accLen = s.accLen := rfl
@[simp] theorem pushTx_scr (bytes : List Byte) (s : State) : (pushTx bytes s).scr = s.scr := rfl
@[simp] theorem pushTx_scrN (bytes : List Byte) (s : State) : (pushTx bytes s).scrN = s.scrN := rfl
@[simp] theorem pushTx_txf (bytes : List Byte) (s : State) : (pushTx bytes s).txf = s.txf := rfl
@[simp] theorem pushTx_txCount (bytes : List Byte) (s : State) : (pushTx bytes s).txCount = s.txCount := rfl
@[simp] theorem pushTx_budget (bytes : List Byte) (s : State) : (pushTx bytes s).budget = s.budget := rfl
@[simp] theorem pushTx_rs (bytes : List Byte) (s : State) : (pushTx bytes s).rs = s.rs := rfl
@[simp] theorem pushTx_ph (bytes : List Byte) (s : State) : (pushTx bytes s).ph = s.ph := rfl
@[simp] theorem pushTx_perr (bytes : List Byte) (s : State) : (pushTx bytes s).perr = s.perr := rfl
@[simp] theorem pushTx_err (bytes : List Byte) (s : State) : (pushTx bytes s).err = s.err := rfl
@[simp] theorem pushTx_terr (bytes : List Byte) (s : State) : (pushTx bytes s).terr = s.terr := rfl
@[simp] theorem pushTx_busy (bytes : List Byte) (s : State) : (pushTx bytes s).busy = s.busy := rfl
@[simp] theorem pushTx_done (bytes : List Byte) (s : State) : (pushTx bytes s).done = s.done := rfl
@[simp] theorem pushTx_ack (bytes : List Byte) (s : State) : (pushTx bytes s).ack = s.ack := rfl
@[simp] theorem pushTx_opCode (bytes : List Byte) (s : State) : (pushTx bytes s).opCode = s.opCode := rfl
@[simp] theorem pushTx_opP0 (bytes : List Byte) (s : State) : (pushTx bytes s).opP0 = s.opP0 := rfl
@[simp] theorem pushTx_opP1 (bytes : List Byte) (s : State) : (pushTx bytes s).opP1 = s.opP1 := rfl
@[simp] theorem pushTx_opP2 (bytes : List Byte) (s : State) : (pushTx bytes s).opP2 = s.opP2 := rfl
@[simp] theorem pushTx_opKind (bytes : List Byte) (s : State) : (pushTx bytes s).opKind = s.opKind := rfl
@[simp] theorem pushTx_host (bytes : List Byte) (s : State) : (pushTx bytes s).host = s.host := rfl
@[simp] theorem pushTx_treq (bytes : List Byte) (s : State) : (pushTx bytes s).treq = s.treq := rfl
@[simp] theorem pushTx_trsp (bytes : List Byte) (s : State) : (pushTx bytes s).trsp = s.trsp := rfl
@[simp] theorem pushTx_dly (bytes : List Byte) (s : State) : (pushTx bytes s).dly = s.dly := rfl
@[simp] theorem pushTx_rxq (bytes : List Byte) (s : State) : (pushTx bytes s).rxq = s.rxq := rfl
@[simp] theorem pushTx_txq (bytes : List Byte) (s : State) : (pushTx bytes s).txq = s.txq ++ bytes := rfl
@[simp] theorem pushTx_ckSource (bytes : List Byte) (s : State) : (pushTx bytes s).ckSource = s.ckSource := rfl
@[simp] theorem pushTx_ckOut (bytes : List Byte) (s : State) : (pushTx bytes s).ckOut = s.ckOut := rfl
@[simp] theorem pushTx_env (bytes : List Byte) (s : State) : (pushTx bytes s).env = s.env := rfl
@[simp] theorem pushTx_direct (bytes : List Byte) (s : State) : (pushTx bytes s).direct = s.direct := rfl
@[simp] theorem pushTx_fresh (bytes : List Byte) (s : State) : (pushTx bytes s).fresh = s.fresh := rfl
@[simp] theorem pushTx_trace (bytes : List Byte) (s : State) : (pushTx bytes s).trace = s.trace := rfl

/-! ### `loseRx` -/

@[simp] theorem loseRx_acc (s : State) : (loseRx s).acc = s.acc := rfl
@[simp] theorem loseRx_accLen (s : State) : (loseRx s).accLen = s.accLen := rfl
@[simp] theorem loseRx_scr (s : State) : (loseRx s).scr = s.scr := rfl
@[simp] theorem loseRx_scrN (s : State) : (loseRx s).scrN = s.scrN := rfl
@[simp] theorem loseRx_txf (s : State) : (loseRx s).txf = s.txf := rfl
@[simp] theorem loseRx_txCount (s : State) : (loseRx s).txCount = s.txCount := rfl
@[simp] theorem loseRx_budget (s : State) : (loseRx s).budget = s.budget := rfl
@[simp] theorem loseRx_rs (s : State) : (loseRx s).rs = s.rs := rfl
@[simp] theorem loseRx_ph (s : State) : (loseRx s).ph = s.ph := rfl
@[simp] theorem loseRx_perr (s : State) : (loseRx s).perr = s.perr := rfl
@[simp] theorem loseRx_err (s : State) : (loseRx s).err = s.err := rfl
@[simp] theorem loseRx_terr (s : State) : (loseRx s).terr = s.terr := rfl
@[simp] theorem loseRx_busy (s : State) : (loseRx s).busy = s.busy := rfl
@[simp] theorem loseRx_done (s : State) : (loseRx s).done = s.done := rfl
@[simp] theorem loseRx_ack (s : State) : (loseRx s).ack = s.ack := rfl
@[simp] theorem loseRx_opCode (s : State) : (loseRx s).opCode = s.opCode := rfl
@[simp] theorem loseRx_opP0 (s : State) : (loseRx s).opP0 = s.opP0 := rfl
@[simp] theorem loseRx_opP1 (s : State) : (loseRx s).opP1 = s.opP1 := rfl
@[simp] theorem loseRx_opP2 (s : State) : (loseRx s).opP2 = s.opP2 := rfl
@[simp] theorem loseRx_opKind (s : State) : (loseRx s).opKind = s.opKind := rfl
@[simp] theorem loseRx_host (s : State) : (loseRx s).host = s.host := rfl
@[simp] theorem loseRx_treq (s : State) : (loseRx s).treq = s.treq := rfl
@[simp] theorem loseRx_trsp (s : State) : (loseRx s).trsp = s.trsp := rfl
@[simp] theorem loseRx_dly (s : State) : (loseRx s).dly = s.dly := rfl
@[simp] theorem loseRx_rxq (s : State) : (loseRx s).rxq = Config.freeQueue s.fresh := rfl
@[simp] theorem loseRx_txq (s : State) : (loseRx s).txq = s.txq := rfl
@[simp] theorem loseRx_ckSource (s : State) : (loseRx s).ckSource = s.ckSource := rfl
@[simp] theorem loseRx_ckOut (s : State) : (loseRx s).ckOut = s.ckOut := rfl
@[simp] theorem loseRx_env (s : State) : (loseRx s).env = s.env := rfl
@[simp] theorem loseRx_direct (s : State) : (loseRx s).direct = s.direct := rfl
@[simp] theorem loseRx_fresh (s : State) : (loseRx s).fresh = s.fresh + 1 := rfl
@[simp] theorem loseRx_trace (s : State) : (loseRx s).trace = s.trace := rfl

/-! ### `loseTx` -/

@[simp] theorem loseTx_acc (s : State) : (loseTx s).acc = s.acc := rfl
@[simp] theorem loseTx_accLen (s : State) : (loseTx s).accLen = s.accLen := rfl
@[simp] theorem loseTx_scr (s : State) : (loseTx s).scr = s.scr := rfl
@[simp] theorem loseTx_scrN (s : State) : (loseTx s).scrN = s.scrN := rfl
@[simp] theorem loseTx_txf (s : State) : (loseTx s).txf = s.txf := rfl
@[simp] theorem loseTx_txCount (s : State) : (loseTx s).txCount = s.txCount := rfl
@[simp] theorem loseTx_budget (s : State) : (loseTx s).budget = s.budget := rfl
@[simp] theorem loseTx_rs (s : State) : (loseTx s).rs = s.rs := rfl
@[simp] theorem loseTx_ph (s : State) : (loseTx s).ph = s.ph := rfl
@[simp] theorem loseTx_perr (s : State) : (loseTx s).perr = s.perr := rfl
@[simp] theorem loseTx_err (s : State) : (loseTx s).err = s.err := rfl
@[simp] theorem loseTx_terr (s : State) : (loseTx s).terr = s.terr := rfl
@[simp] theorem loseTx_busy (s : State) : (loseTx s).busy = s.busy := rfl
@[simp] theorem loseTx_done (s : State) : (loseTx s).done = s.done := rfl
@[simp] theorem loseTx_ack (s : State) : (loseTx s).ack = s.ack := rfl
@[simp] theorem loseTx_opCode (s : State) : (loseTx s).opCode = s.opCode := rfl
@[simp] theorem loseTx_opP0 (s : State) : (loseTx s).opP0 = s.opP0 := rfl
@[simp] theorem loseTx_opP1 (s : State) : (loseTx s).opP1 = s.opP1 := rfl
@[simp] theorem loseTx_opP2 (s : State) : (loseTx s).opP2 = s.opP2 := rfl
@[simp] theorem loseTx_opKind (s : State) : (loseTx s).opKind = s.opKind := rfl
@[simp] theorem loseTx_host (s : State) : (loseTx s).host = s.host := rfl
@[simp] theorem loseTx_treq (s : State) : (loseTx s).treq = s.treq := rfl
@[simp] theorem loseTx_trsp (s : State) : (loseTx s).trsp = s.trsp := rfl
@[simp] theorem loseTx_dly (s : State) : (loseTx s).dly = s.dly := rfl
@[simp] theorem loseTx_rxq (s : State) : (loseTx s).rxq = s.rxq := rfl
@[simp] theorem loseTx_txq (s : State) : (loseTx s).txq = Config.freeQueue s.fresh := rfl
@[simp] theorem loseTx_ckSource (s : State) : (loseTx s).ckSource = s.ckSource := rfl
@[simp] theorem loseTx_ckOut (s : State) : (loseTx s).ckOut = s.ckOut := rfl
@[simp] theorem loseTx_env (s : State) : (loseTx s).env = s.env := rfl
@[simp] theorem loseTx_direct (s : State) : (loseTx s).direct = s.direct := rfl
@[simp] theorem loseTx_fresh (s : State) : (loseTx s).fresh = s.fresh + 1 := rfl
@[simp] theorem loseTx_trace (s : State) : (loseTx s).trace = s.trace := rfl

/-! ### `complete` -/

@[simp] theorem complete_acc (kind : ErrKind) (s : State) : (complete kind s).acc = s.acc := rfl
@[simp] theorem complete_accLen (kind : ErrKind) (s : State) : (complete kind s).accLen = s.accLen := rfl
@[simp] theorem complete_scr (kind : ErrKind) (s : State) : (complete kind s).scr = s.scr := rfl
@[simp] theorem complete_scrN (kind : ErrKind) (s : State) : (complete kind s).scrN = s.scrN := rfl
@[simp] theorem complete_txf (kind : ErrKind) (s : State) : (complete kind s).txf = s.txf := rfl
@[simp] theorem complete_txCount (kind : ErrKind) (s : State) : (complete kind s).txCount = s.txCount := rfl
@[simp] theorem complete_budget (kind : ErrKind) (s : State) : (complete kind s).budget = s.budget := rfl
@[simp] theorem complete_rs (kind : ErrKind) (s : State) : (complete kind s).rs = s.rs := rfl
@[simp] theorem complete_ph (kind : ErrKind) (s : State) : (complete kind s).ph = .idle := rfl
@[simp] theorem complete_perr (kind : ErrKind) (s : State) : (complete kind s).perr = s.perr := rfl
@[simp] theorem complete_err (kind : ErrKind) (s : State) : (complete kind s).err = kind := rfl
@[simp] theorem complete_terr (kind : ErrKind) (s : State) : (complete kind s).terr = s.terr := rfl
@[simp] theorem complete_busy (kind : ErrKind) (s : State) : (complete kind s).busy = false := rfl
@[simp] theorem complete_done (kind : ErrKind) (s : State) : (complete kind s).done = true := rfl
@[simp] theorem complete_ack (kind : ErrKind) (s : State) : (complete kind s).ack = s.ack := rfl
@[simp] theorem complete_opCode (kind : ErrKind) (s : State) : (complete kind s).opCode = s.opCode := rfl
@[simp] theorem complete_opP0 (kind : ErrKind) (s : State) : (complete kind s).opP0 = s.opP0 := rfl
@[simp] theorem complete_opP1 (kind : ErrKind) (s : State) : (complete kind s).opP1 = s.opP1 := rfl
@[simp] theorem complete_opP2 (kind : ErrKind) (s : State) : (complete kind s).opP2 = s.opP2 := rfl
@[simp] theorem complete_opKind (kind : ErrKind) (s : State) : (complete kind s).opKind = s.opKind := rfl
@[simp] theorem complete_host (kind : ErrKind) (s : State) : (complete kind s).host = s.host := rfl
@[simp] theorem complete_treq (kind : ErrKind) (s : State) : (complete kind s).treq = s.treq := rfl
@[simp] theorem complete_trsp (kind : ErrKind) (s : State) : (complete kind s).trsp = s.trsp := rfl
@[simp] theorem complete_dly (kind : ErrKind) (s : State) : (complete kind s).dly = s.dly := rfl
@[simp] theorem complete_rxq (kind : ErrKind) (s : State) : (complete kind s).rxq = s.rxq := rfl
@[simp] theorem complete_txq (kind : ErrKind) (s : State) : (complete kind s).txq = s.txq := rfl
@[simp] theorem complete_ckSource (kind : ErrKind) (s : State) : (complete kind s).ckSource = s.ckSource := rfl
@[simp] theorem complete_ckOut (kind : ErrKind) (s : State) : (complete kind s).ckOut = s.ckOut := rfl
@[simp] theorem complete_env (kind : ErrKind) (s : State) : (complete kind s).env = s.env := rfl
@[simp] theorem complete_direct (kind : ErrKind) (s : State) : (complete kind s).direct = s.direct := rfl
@[simp] theorem complete_fresh (kind : ErrKind) (s : State) : (complete kind s).fresh = s.fresh := rfl
@[simp] theorem complete_trace (kind : ErrKind) (s : State) : (complete kind s).trace = s.trace := rfl

/-! ### `markFailed` -/

@[simp] theorem markFailed_acc (s : State) : (markFailed s).acc = s.acc := rfl
@[simp] theorem markFailed_accLen (s : State) : (markFailed s).accLen = s.accLen := rfl
@[simp] theorem markFailed_scr (s : State) : (markFailed s).scr = s.scr := rfl
@[simp] theorem markFailed_scrN (s : State) : (markFailed s).scrN = s.scrN := rfl
@[simp] theorem markFailed_txf (s : State) : (markFailed s).txf = s.txf := rfl
@[simp] theorem markFailed_txCount (s : State) : (markFailed s).txCount = s.txCount := rfl
@[simp] theorem markFailed_budget (s : State) : (markFailed s).budget = s.budget := rfl
@[simp] theorem markFailed_rs (s : State) : (markFailed s).rs = if s.opKind = .rdack then .failed else s.rs := rfl
@[simp] theorem markFailed_ph (s : State) : (markFailed s).ph = s.ph := rfl
@[simp] theorem markFailed_perr (s : State) : (markFailed s).perr = s.perr := rfl
@[simp] theorem markFailed_err (s : State) : (markFailed s).err = s.err := rfl
@[simp] theorem markFailed_terr (s : State) : (markFailed s).terr = s.terr := rfl
@[simp] theorem markFailed_busy (s : State) : (markFailed s).busy = s.busy := rfl
@[simp] theorem markFailed_done (s : State) : (markFailed s).done = s.done := rfl
@[simp] theorem markFailed_ack (s : State) : (markFailed s).ack = s.ack := rfl
@[simp] theorem markFailed_opCode (s : State) : (markFailed s).opCode = s.opCode := rfl
@[simp] theorem markFailed_opP0 (s : State) : (markFailed s).opP0 = s.opP0 := rfl
@[simp] theorem markFailed_opP1 (s : State) : (markFailed s).opP1 = s.opP1 := rfl
@[simp] theorem markFailed_opP2 (s : State) : (markFailed s).opP2 = s.opP2 := rfl
@[simp] theorem markFailed_opKind (s : State) : (markFailed s).opKind = s.opKind := rfl
@[simp] theorem markFailed_host (s : State) : (markFailed s).host = s.host := rfl
@[simp] theorem markFailed_treq (s : State) : (markFailed s).treq = s.treq := rfl
@[simp] theorem markFailed_trsp (s : State) : (markFailed s).trsp = s.trsp := rfl
@[simp] theorem markFailed_dly (s : State) : (markFailed s).dly = s.dly := rfl
@[simp] theorem markFailed_rxq (s : State) : (markFailed s).rxq = s.rxq := rfl
@[simp] theorem markFailed_txq (s : State) : (markFailed s).txq = s.txq := rfl
@[simp] theorem markFailed_ckSource (s : State) : (markFailed s).ckSource = s.ckSource := rfl
@[simp] theorem markFailed_ckOut (s : State) : (markFailed s).ckOut = s.ckOut := rfl
@[simp] theorem markFailed_env (s : State) : (markFailed s).env = s.env := rfl
@[simp] theorem markFailed_direct (s : State) : (markFailed s).direct = s.direct := rfl
@[simp] theorem markFailed_fresh (s : State) : (markFailed s).fresh = s.fresh := rfl
@[simp] theorem markFailed_trace (s : State) : (markFailed s).trace = s.trace := rfl

/-! ### `fail` -/

@[simp] theorem fail_acc (kind : ErrKind) (s : State) : (fail kind s).acc = s.acc := rfl
@[simp] theorem fail_accLen (kind : ErrKind) (s : State) : (fail kind s).accLen = s.accLen := rfl
@[simp] theorem fail_scr (kind : ErrKind) (s : State) : (fail kind s).scr = s.scr := rfl
@[simp] theorem fail_scrN (kind : ErrKind) (s : State) : (fail kind s).scrN = s.scrN := rfl
@[simp] theorem fail_txf (kind : ErrKind) (s : State) : (fail kind s).txf = s.txf := rfl
@[simp] theorem fail_txCount (kind : ErrKind) (s : State) : (fail kind s).txCount = s.txCount := rfl
@[simp] theorem fail_budget (kind : ErrKind) (s : State) : (fail kind s).budget = s.budget := rfl
@[simp] theorem fail_rs (kind : ErrKind) (s : State) : (fail kind s).rs = if s.opKind = .rdack then .failed else s.rs := rfl
@[simp] theorem fail_ph (kind : ErrKind) (s : State) : (fail kind s).ph = .idle := rfl
@[simp] theorem fail_perr (kind : ErrKind) (s : State) : (fail kind s).perr = s.perr := rfl
@[simp] theorem fail_err (kind : ErrKind) (s : State) : (fail kind s).err = kind := rfl
@[simp] theorem fail_terr (kind : ErrKind) (s : State) : (fail kind s).terr = s.terr := rfl
@[simp] theorem fail_busy (kind : ErrKind) (s : State) : (fail kind s).busy = false := rfl
@[simp] theorem fail_done (kind : ErrKind) (s : State) : (fail kind s).done = true := rfl
@[simp] theorem fail_ack (kind : ErrKind) (s : State) : (fail kind s).ack = s.ack := rfl
@[simp] theorem fail_opCode (kind : ErrKind) (s : State) : (fail kind s).opCode = s.opCode := rfl
@[simp] theorem fail_opP0 (kind : ErrKind) (s : State) : (fail kind s).opP0 = s.opP0 := rfl
@[simp] theorem fail_opP1 (kind : ErrKind) (s : State) : (fail kind s).opP1 = s.opP1 := rfl
@[simp] theorem fail_opP2 (kind : ErrKind) (s : State) : (fail kind s).opP2 = s.opP2 := rfl
@[simp] theorem fail_opKind (kind : ErrKind) (s : State) : (fail kind s).opKind = s.opKind := rfl
@[simp] theorem fail_host (kind : ErrKind) (s : State) : (fail kind s).host = s.host := rfl
@[simp] theorem fail_treq (kind : ErrKind) (s : State) : (fail kind s).treq = s.treq := rfl
@[simp] theorem fail_trsp (kind : ErrKind) (s : State) : (fail kind s).trsp = s.trsp := rfl
@[simp] theorem fail_dly (kind : ErrKind) (s : State) : (fail kind s).dly = s.dly := rfl
@[simp] theorem fail_rxq (kind : ErrKind) (s : State) : (fail kind s).rxq = s.rxq := rfl
@[simp] theorem fail_txq (kind : ErrKind) (s : State) : (fail kind s).txq = s.txq := rfl
@[simp] theorem fail_ckSource (kind : ErrKind) (s : State) : (fail kind s).ckSource = s.ckSource := rfl
@[simp] theorem fail_ckOut (kind : ErrKind) (s : State) : (fail kind s).ckOut = s.ckOut := rfl
@[simp] theorem fail_env (kind : ErrKind) (s : State) : (fail kind s).env = s.env := rfl
@[simp] theorem fail_direct (kind : ErrKind) (s : State) : (fail kind s).direct = s.direct := rfl
@[simp] theorem fail_fresh (kind : ErrKind) (s : State) : (fail kind s).fresh = s.fresh := rfl
@[simp] theorem fail_trace (kind : ErrKind) (s : State) : (fail kind s).trace = s.trace := rfl

/-! ### `failTransport` -/

@[simp] theorem failTransport_acc (e : TErr) (s : State) : (failTransport e s).acc = s.acc := rfl
@[simp] theorem failTransport_accLen (e : TErr) (s : State) : (failTransport e s).accLen = s.accLen := rfl
@[simp] theorem failTransport_scr (e : TErr) (s : State) : (failTransport e s).scr = s.scr := rfl
@[simp] theorem failTransport_scrN (e : TErr) (s : State) : (failTransport e s).scrN = s.scrN := rfl
@[simp] theorem failTransport_txf (e : TErr) (s : State) : (failTransport e s).txf = s.txf := rfl
@[simp] theorem failTransport_txCount (e : TErr) (s : State) : (failTransport e s).txCount = s.txCount := rfl
@[simp] theorem failTransport_budget (e : TErr) (s : State) : (failTransport e s).budget = s.budget := rfl
@[simp] theorem failTransport_rs (e : TErr) (s : State) : (failTransport e s).rs = if s.opKind = .rdack then .failed else s.rs := rfl
@[simp] theorem failTransport_ph (e : TErr) (s : State) : (failTransport e s).ph = .idle := rfl
@[simp] theorem failTransport_perr (e : TErr) (s : State) : (failTransport e s).perr = s.perr := rfl
@[simp] theorem failTransport_err (e : TErr) (s : State) : (failTransport e s).err = .transportFailure := rfl
@[simp] theorem failTransport_terr (e : TErr) (s : State) : (failTransport e s).terr = e := rfl
@[simp] theorem failTransport_busy (e : TErr) (s : State) : (failTransport e s).busy = false := rfl
@[simp] theorem failTransport_done (e : TErr) (s : State) : (failTransport e s).done = true := rfl
@[simp] theorem failTransport_ack (e : TErr) (s : State) : (failTransport e s).ack = s.ack := rfl
@[simp] theorem failTransport_opCode (e : TErr) (s : State) : (failTransport e s).opCode = s.opCode := rfl
@[simp] theorem failTransport_opP0 (e : TErr) (s : State) : (failTransport e s).opP0 = s.opP0 := rfl
@[simp] theorem failTransport_opP1 (e : TErr) (s : State) : (failTransport e s).opP1 = s.opP1 := rfl
@[simp] theorem failTransport_opP2 (e : TErr) (s : State) : (failTransport e s).opP2 = s.opP2 := rfl
@[simp] theorem failTransport_opKind (e : TErr) (s : State) : (failTransport e s).opKind = s.opKind := rfl
@[simp] theorem failTransport_host (e : TErr) (s : State) : (failTransport e s).host = s.host := rfl
@[simp] theorem failTransport_treq (e : TErr) (s : State) : (failTransport e s).treq = s.treq := rfl
@[simp] theorem failTransport_trsp (e : TErr) (s : State) : (failTransport e s).trsp = s.trsp := rfl
@[simp] theorem failTransport_dly (e : TErr) (s : State) : (failTransport e s).dly = s.dly := rfl
@[simp] theorem failTransport_rxq (e : TErr) (s : State) : (failTransport e s).rxq = s.rxq := rfl
@[simp] theorem failTransport_txq (e : TErr) (s : State) : (failTransport e s).txq = s.txq := rfl
@[simp] theorem failTransport_ckSource (e : TErr) (s : State) : (failTransport e s).ckSource = s.ckSource := rfl
@[simp] theorem failTransport_ckOut (e : TErr) (s : State) : (failTransport e s).ckOut = s.ckOut := rfl
@[simp] theorem failTransport_env (e : TErr) (s : State) : (failTransport e s).env = s.env := rfl
@[simp] theorem failTransport_direct (e : TErr) (s : State) : (failTransport e s).direct = s.direct := rfl
@[simp] theorem failTransport_fresh (e : TErr) (s : State) : (failTransport e s).fresh = s.fresh := rfl
@[simp] theorem failTransport_trace (e : TErr) (s : State) : (failTransport e s).trace = s.trace := rfl

/-! ### `failFlush` -/

@[simp] theorem failFlush_acc (kind : ErrKind) (s : State) : (failFlush kind s).acc = s.acc := rfl
@[simp] theorem failFlush_accLen (kind : ErrKind) (s : State) : (failFlush kind s).accLen = s.accLen := rfl
@[simp] theorem failFlush_scr (kind : ErrKind) (s : State) : (failFlush kind s).scr = s.scr := rfl
@[simp] theorem failFlush_scrN (kind : ErrKind) (s : State) : (failFlush kind s).scrN = s.scrN := rfl
@[simp] theorem failFlush_txf (kind : ErrKind) (s : State) : (failFlush kind s).txf = s.txf := rfl
@[simp] theorem failFlush_txCount (kind : ErrKind) (s : State) : (failFlush kind s).txCount = s.txCount := rfl
@[simp] theorem failFlush_budget (kind : ErrKind) (s : State) : (failFlush kind s).budget = s.budget := rfl
@[simp] theorem failFlush_rs (kind : ErrKind) (s : State) : (failFlush kind s).rs = s.rs := rfl
@[simp] theorem failFlush_ph (kind : ErrKind) (s : State) : (failFlush kind s).ph = .rFlushR := rfl
@[simp] theorem failFlush_perr (kind : ErrKind) (s : State) : (failFlush kind s).perr = kind := rfl
@[simp] theorem failFlush_err (kind : ErrKind) (s : State) : (failFlush kind s).err = s.err := rfl
@[simp] theorem failFlush_terr (kind : ErrKind) (s : State) : (failFlush kind s).terr = s.terr := rfl
@[simp] theorem failFlush_busy (kind : ErrKind) (s : State) : (failFlush kind s).busy = s.busy := rfl
@[simp] theorem failFlush_done (kind : ErrKind) (s : State) : (failFlush kind s).done = s.done := rfl
@[simp] theorem failFlush_ack (kind : ErrKind) (s : State) : (failFlush kind s).ack = s.ack := rfl
@[simp] theorem failFlush_opCode (kind : ErrKind) (s : State) : (failFlush kind s).opCode = s.opCode := rfl
@[simp] theorem failFlush_opP0 (kind : ErrKind) (s : State) : (failFlush kind s).opP0 = s.opP0 := rfl
@[simp] theorem failFlush_opP1 (kind : ErrKind) (s : State) : (failFlush kind s).opP1 = s.opP1 := rfl
@[simp] theorem failFlush_opP2 (kind : ErrKind) (s : State) : (failFlush kind s).opP2 = s.opP2 := rfl
@[simp] theorem failFlush_opKind (kind : ErrKind) (s : State) : (failFlush kind s).opKind = s.opKind := rfl
@[simp] theorem failFlush_host (kind : ErrKind) (s : State) : (failFlush kind s).host = s.host := rfl
@[simp] theorem failFlush_treq (kind : ErrKind) (s : State) : (failFlush kind s).treq = { req := true, op := 1, len := 0, timeout := 0, wdata := Buf.zero } := rfl
@[simp] theorem failFlush_trsp (kind : ErrKind) (s : State) : (failFlush kind s).trsp = { s.trsp with rsp := false } := rfl
@[simp] theorem failFlush_dly (kind : ErrKind) (s : State) : (failFlush kind s).dly = s.dly := rfl
@[simp] theorem failFlush_rxq (kind : ErrKind) (s : State) : (failFlush kind s).rxq = s.rxq := rfl
@[simp] theorem failFlush_txq (kind : ErrKind) (s : State) : (failFlush kind s).txq = s.txq := rfl
@[simp] theorem failFlush_ckSource (kind : ErrKind) (s : State) : (failFlush kind s).ckSource = s.ckSource := rfl
@[simp] theorem failFlush_ckOut (kind : ErrKind) (s : State) : (failFlush kind s).ckOut = s.ckOut := rfl
@[simp] theorem failFlush_env (kind : ErrKind) (s : State) : (failFlush kind s).env = s.env := rfl
@[simp] theorem failFlush_direct (kind : ErrKind) (s : State) : (failFlush kind s).direct = s.direct := rfl
@[simp] theorem failFlush_fresh (kind : ErrKind) (s : State) : (failFlush kind s).fresh = s.fresh := rfl
@[simp] theorem failFlush_trace (kind : ErrKind) (s : State) : (failFlush kind s).trace = s.trace := rfl

/-! ### `succeedAck` -/

@[simp] theorem succeedAck_acc (s : State) : (succeedAck s).acc = s.acc := rfl
@[simp] theorem succeedAck_accLen (s : State) : (succeedAck s).accLen = s.accLen := rfl
@[simp] theorem succeedAck_scr (s : State) : (succeedAck s).scr = s.scr := rfl
@[simp] theorem succeedAck_scrN (s : State) : (succeedAck s).scrN = s.scrN := rfl
@[simp] theorem succeedAck_txf (s : State) : (succeedAck s).txf = s.txf := rfl
@[simp] theorem succeedAck_txCount (s : State) : (succeedAck s).txCount = s.txCount := rfl
@[simp] theorem succeedAck_budget (s : State) : (succeedAck s).budget = s.budget := rfl
@[simp] theorem succeedAck_rs (s : State) : (succeedAck s).rs = .validated := rfl
@[simp] theorem succeedAck_ph (s : State) : (succeedAck s).ph = .idle := rfl
@[simp] theorem succeedAck_perr (s : State) : (succeedAck s).perr = s.perr := rfl
@[simp] theorem succeedAck_err (s : State) : (succeedAck s).err = .none := rfl
@[simp] theorem succeedAck_terr (s : State) : (succeedAck s).terr = s.terr := rfl
@[simp] theorem succeedAck_busy (s : State) : (succeedAck s).busy = false := rfl
@[simp] theorem succeedAck_done (s : State) : (succeedAck s).done = true := rfl
@[simp] theorem succeedAck_ack (s : State) : (succeedAck s).ack = some (decodeAck s.acc) := rfl
@[simp] theorem succeedAck_opCode (s : State) : (succeedAck s).opCode = s.opCode := rfl
@[simp] theorem succeedAck_opP0 (s : State) : (succeedAck s).opP0 = s.opP0 := rfl
@[simp] theorem succeedAck_opP1 (s : State) : (succeedAck s).opP1 = s.opP1 := rfl
@[simp] theorem succeedAck_opP2 (s : State) : (succeedAck s).opP2 = s.opP2 := rfl
@[simp] theorem succeedAck_opKind (s : State) : (succeedAck s).opKind = s.opKind := rfl
@[simp] theorem succeedAck_host (s : State) : (succeedAck s).host = s.host := rfl
@[simp] theorem succeedAck_treq (s : State) : (succeedAck s).treq = s.treq := rfl
@[simp] theorem succeedAck_trsp (s : State) : (succeedAck s).trsp = s.trsp := rfl
@[simp] theorem succeedAck_dly (s : State) : (succeedAck s).dly = s.dly := rfl
@[simp] theorem succeedAck_rxq (s : State) : (succeedAck s).rxq = s.rxq := rfl
@[simp] theorem succeedAck_txq (s : State) : (succeedAck s).txq = s.txq := rfl
@[simp] theorem succeedAck_ckSource (s : State) : (succeedAck s).ckSource = s.ckSource := rfl
@[simp] theorem succeedAck_ckOut (s : State) : (succeedAck s).ckOut = s.ckOut := rfl
@[simp] theorem succeedAck_env (s : State) : (succeedAck s).env = s.env := rfl
@[simp] theorem succeedAck_direct (s : State) : (succeedAck s).direct = s.direct := rfl
@[simp] theorem succeedAck_fresh (s : State) : (succeedAck s).fresh = s.fresh := rfl
@[simp] theorem succeedAck_trace (s : State) : (succeedAck s).trace = s.trace := rfl

/-! ### `consumeQuantum` -/

@[simp] theorem consumeQuantum_acc (s : State) : (consumeQuantum s).acc = s.acc := rfl
@[simp] theorem consumeQuantum_accLen (s : State) : (consumeQuantum s).accLen = s.accLen := rfl
@[simp] theorem consumeQuantum_scr (s : State) : (consumeQuantum s).scr = s.scr := rfl
@[simp] theorem consumeQuantum_scrN (s : State) : (consumeQuantum s).scrN = s.scrN := rfl
@[simp] theorem consumeQuantum_txf (s : State) : (consumeQuantum s).txf = s.txf := rfl
@[simp] theorem consumeQuantum_txCount (s : State) : (consumeQuantum s).txCount = s.txCount := rfl
@[simp] theorem consumeQuantum_budget (s : State) : (consumeQuantum s).budget = satsub s.budget params.pollQuantumMs := rfl
@[simp] theorem consumeQuantum_rs (s : State) : (consumeQuantum s).rs = s.rs := rfl
@[simp] theorem consumeQuantum_ph (s : State) : (consumeQuantum s).ph = .rDelay := rfl
@[simp] theorem consumeQuantum_perr (s : State) : (consumeQuantum s).perr = s.perr := rfl
@[simp] theorem consumeQuantum_err (s : State) : (consumeQuantum s).err = s.err := rfl
@[simp] theorem consumeQuantum_terr (s : State) : (consumeQuantum s).terr = s.terr := rfl
@[simp] theorem consumeQuantum_busy (s : State) : (consumeQuantum s).busy = s.busy := rfl
@[simp] theorem consumeQuantum_done (s : State) : (consumeQuantum s).done = s.done := rfl
@[simp] theorem consumeQuantum_ack (s : State) : (consumeQuantum s).ack = s.ack := rfl
@[simp] theorem consumeQuantum_opCode (s : State) : (consumeQuantum s).opCode = s.opCode := rfl
@[simp] theorem consumeQuantum_opP0 (s : State) : (consumeQuantum s).opP0 = s.opP0 := rfl
@[simp] theorem consumeQuantum_opP1 (s : State) : (consumeQuantum s).opP1 = s.opP1 := rfl
@[simp] theorem consumeQuantum_opP2 (s : State) : (consumeQuantum s).opP2 = s.opP2 := rfl
@[simp] theorem consumeQuantum_opKind (s : State) : (consumeQuantum s).opKind = s.opKind := rfl
@[simp] theorem consumeQuantum_host (s : State) : (consumeQuantum s).host = s.host := rfl
@[simp] theorem consumeQuantum_treq (s : State) : (consumeQuantum s).treq = s.treq := rfl
@[simp] theorem consumeQuantum_trsp (s : State) : (consumeQuantum s).trsp = s.trsp := rfl
@[simp] theorem consumeQuantum_dly (s : State) : (consumeQuantum s).dly = { req := true, ms := params.pollQuantumMs, done := false } := rfl
@[simp] theorem consumeQuantum_rxq (s : State) : (consumeQuantum s).rxq = s.rxq := rfl
@[simp] theorem consumeQuantum_txq (s : State) : (consumeQuantum s).txq = s.txq := rfl
@[simp] theorem consumeQuantum_ckSource (s : State) : (consumeQuantum s).ckSource = s.ckSource := rfl
@[simp] theorem consumeQuantum_ckOut (s : State) : (consumeQuantum s).ckOut = s.ckOut := rfl
@[simp] theorem consumeQuantum_env (s : State) : (consumeQuantum s).env = s.env := rfl
@[simp] theorem consumeQuantum_direct (s : State) : (consumeQuantum s).direct = s.direct := rfl
@[simp] theorem consumeQuantum_fresh (s : State) : (consumeQuantum s).fresh = s.fresh := rfl
@[simp] theorem consumeQuantum_trace (s : State) : (consumeQuantum s).trace = s.trace := rfl

/-! ### `resetScratch` -/

@[simp] theorem resetScratch_acc (s : State) : (resetScratch s).acc = s.acc := rfl
@[simp] theorem resetScratch_accLen (s : State) : (resetScratch s).accLen = s.accLen := rfl
@[simp] theorem resetScratch_scr (s : State) : (resetScratch s).scr = Buf.zero := rfl
@[simp] theorem resetScratch_scrN (s : State) : (resetScratch s).scrN = 0 := rfl
@[simp] theorem resetScratch_txf (s : State) : (resetScratch s).txf = s.txf := rfl
@[simp] theorem resetScratch_txCount (s : State) : (resetScratch s).txCount = s.txCount := rfl
@[simp] theorem resetScratch_budget (s : State) : (resetScratch s).budget = s.budget := rfl
@[simp] theorem resetScratch_rs (s : State) : (resetScratch s).rs = s.rs := rfl
@[simp] theorem resetScratch_ph (s : State) : (resetScratch s).ph = s.ph := rfl
@[simp] theorem resetScratch_perr (s : State) : (resetScratch s).perr = s.perr := rfl
@[simp] theorem resetScratch_err (s : State) : (resetScratch s).err = s.err := rfl
@[simp] theorem resetScratch_terr (s : State) : (resetScratch s).terr = s.terr := rfl
@[simp] theorem resetScratch_busy (s : State) : (resetScratch s).busy = s.busy := rfl
@[simp] theorem resetScratch_done (s : State) : (resetScratch s).done = s.done := rfl
@[simp] theorem resetScratch_ack (s : State) : (resetScratch s).ack = s.ack := rfl
@[simp] theorem resetScratch_opCode (s : State) : (resetScratch s).opCode = s.opCode := rfl
@[simp] theorem resetScratch_opP0 (s : State) : (resetScratch s).opP0 = s.opP0 := rfl
@[simp] theorem resetScratch_opP1 (s : State) : (resetScratch s).opP1 = s.opP1 := rfl
@[simp] theorem resetScratch_opP2 (s : State) : (resetScratch s).opP2 = s.opP2 := rfl
@[simp] theorem resetScratch_opKind (s : State) : (resetScratch s).opKind = s.opKind := rfl
@[simp] theorem resetScratch_host (s : State) : (resetScratch s).host = s.host := rfl
@[simp] theorem resetScratch_treq (s : State) : (resetScratch s).treq = s.treq := rfl
@[simp] theorem resetScratch_trsp (s : State) : (resetScratch s).trsp = s.trsp := rfl
@[simp] theorem resetScratch_dly (s : State) : (resetScratch s).dly = s.dly := rfl
@[simp] theorem resetScratch_rxq (s : State) : (resetScratch s).rxq = s.rxq := rfl
@[simp] theorem resetScratch_txq (s : State) : (resetScratch s).txq = s.txq := rfl
@[simp] theorem resetScratch_ckSource (s : State) : (resetScratch s).ckSource = s.ckSource := rfl
@[simp] theorem resetScratch_ckOut (s : State) : (resetScratch s).ckOut = s.ckOut := rfl
@[simp] theorem resetScratch_env (s : State) : (resetScratch s).env = s.env := rfl
@[simp] theorem resetScratch_direct (s : State) : (resetScratch s).direct = s.direct := rfl
@[simp] theorem resetScratch_fresh (s : State) : (resetScratch s).fresh = s.fresh := rfl
@[simp] theorem resetScratch_trace (s : State) : (resetScratch s).trace = s.trace := rfl

/-! ### `issueRead` -/

@[simp] theorem issueRead_acc (s : State) : (issueRead s).acc = s.acc := rfl
@[simp] theorem issueRead_accLen (s : State) : (issueRead s).accLen = s.accLen := rfl
@[simp] theorem issueRead_scr (s : State) : (issueRead s).scr = s.scr := rfl
@[simp] theorem issueRead_scrN (s : State) : (issueRead s).scrN = s.scrN := rfl
@[simp] theorem issueRead_txf (s : State) : (issueRead s).txf = s.txf := rfl
@[simp] theorem issueRead_txCount (s : State) : (issueRead s).txCount = s.txCount := rfl
@[simp] theorem issueRead_budget (s : State) : (issueRead s).budget = s.budget := rfl
@[simp] theorem issueRead_rs (s : State) : (issueRead s).rs = s.rs := rfl
@[simp] theorem issueRead_ph (s : State) : (issueRead s).ph = .rRead := rfl
@[simp] theorem issueRead_perr (s : State) : (issueRead s).perr = s.perr := rfl
@[simp] theorem issueRead_err (s : State) : (issueRead s).err = s.err := rfl
@[simp] theorem issueRead_terr (s : State) : (issueRead s).terr = s.terr := rfl
@[simp] theorem issueRead_busy (s : State) : (issueRead s).busy = s.busy := rfl
@[simp] theorem issueRead_done (s : State) : (issueRead s).done = s.done := rfl
@[simp] theorem issueRead_ack (s : State) : (issueRead s).ack = s.ack := rfl
@[simp] theorem issueRead_opCode (s : State) : (issueRead s).opCode = s.opCode := rfl
@[simp] theorem issueRead_opP0 (s : State) : (issueRead s).opP0 = s.opP0 := rfl
@[simp] theorem issueRead_opP1 (s : State) : (issueRead s).opP1 = s.opP1 := rfl
@[simp] theorem issueRead_opP2 (s : State) : (issueRead s).opP2 = s.opP2 := rfl
@[simp] theorem issueRead_opKind (s : State) : (issueRead s).opKind = s.opKind := rfl
@[simp] theorem issueRead_host (s : State) : (issueRead s).host = s.host := rfl
@[simp] theorem issueRead_treq (s : State) : (issueRead s).treq = { req := true, op := 3, len := 8, timeout := s.budget, wdata := Buf.zero } := rfl
@[simp] theorem issueRead_trsp (s : State) : (issueRead s).trsp = { s.trsp with rsp := false } := rfl
@[simp] theorem issueRead_dly (s : State) : (issueRead s).dly = s.dly := rfl
@[simp] theorem issueRead_rxq (s : State) : (issueRead s).rxq = s.rxq := rfl
@[simp] theorem issueRead_txq (s : State) : (issueRead s).txq = s.txq := rfl
@[simp] theorem issueRead_ckSource (s : State) : (issueRead s).ckSource = s.ckSource := rfl
@[simp] theorem issueRead_ckOut (s : State) : (issueRead s).ckOut = s.ckOut := rfl
@[simp] theorem issueRead_env (s : State) : (issueRead s).env = s.env := rfl
@[simp] theorem issueRead_direct (s : State) : (issueRead s).direct = s.direct := rfl
@[simp] theorem issueRead_fresh (s : State) : (issueRead s).fresh = s.fresh := rfl
@[simp] theorem issueRead_trace (s : State) : (issueRead s).trace = s.trace := rfl

/-! ### `storeChunk` -/

@[simp] theorem storeChunk_acc (n : Nat) (data : Buf) (s : State) : (storeChunk n data s).acc = s.acc := rfl
@[simp] theorem storeChunk_accLen (n : Nat) (data : Buf) (s : State) : (storeChunk n data s).accLen = s.accLen := rfl
@[simp] theorem storeChunk_scr (n : Nat) (data : Buf) (s : State) : (storeChunk n data s).scr = s.scr.overlay data n := rfl
@[simp] theorem storeChunk_scrN (n : Nat) (data : Buf) (s : State) : (storeChunk n data s).scrN = n := rfl
@[simp] theorem storeChunk_txf (n : Nat) (data : Buf) (s : State) : (storeChunk n data s).txf = s.txf := rfl
@[simp] theorem storeChunk_txCount (n : Nat) (data : Buf) (s : State) : (storeChunk n data s).txCount = s.txCount := rfl
@[simp] theorem storeChunk_budget (n : Nat) (data : Buf) (s : State) : (storeChunk n data s).budget = s.budget := rfl
@[simp] theorem storeChunk_rs (n : Nat) (data : Buf) (s : State) : (storeChunk n data s).rs = s.rs := rfl
@[simp] theorem storeChunk_ph (n : Nat) (data : Buf) (s : State) : (storeChunk n data s).ph = s.ph := rfl
@[simp] theorem storeChunk_perr (n : Nat) (data : Buf) (s : State) : (storeChunk n data s).perr = s.perr := rfl
@[simp] theorem storeChunk_err (n : Nat) (data : Buf) (s : State) : (storeChunk n data s).err = s.err := rfl
@[simp] theorem storeChunk_terr (n : Nat) (data : Buf) (s : State) : (storeChunk n data s).terr = s.terr := rfl
@[simp] theorem storeChunk_busy (n : Nat) (data : Buf) (s : State) : (storeChunk n data s).busy = s.busy := rfl
@[simp] theorem storeChunk_done (n : Nat) (data : Buf) (s : State) : (storeChunk n data s).done = s.done := rfl
@[simp] theorem storeChunk_ack (n : Nat) (data : Buf) (s : State) : (storeChunk n data s).ack = s.ack := rfl
@[simp] theorem storeChunk_opCode (n : Nat) (data : Buf) (s : State) : (storeChunk n data s).opCode = s.opCode := rfl
@[simp] theorem storeChunk_opP0 (n : Nat) (data : Buf) (s : State) : (storeChunk n data s).opP0 = s.opP0 := rfl
@[simp] theorem storeChunk_opP1 (n : Nat) (data : Buf) (s : State) : (storeChunk n data s).opP1 = s.opP1 := rfl
@[simp] theorem storeChunk_opP2 (n : Nat) (data : Buf) (s : State) : (storeChunk n data s).opP2 = s.opP2 := rfl
@[simp] theorem storeChunk_opKind (n : Nat) (data : Buf) (s : State) : (storeChunk n data s).opKind = s.opKind := rfl
@[simp] theorem storeChunk_host (n : Nat) (data : Buf) (s : State) : (storeChunk n data s).host = s.host := rfl
@[simp] theorem storeChunk_treq (n : Nat) (data : Buf) (s : State) : (storeChunk n data s).treq = s.treq := rfl
@[simp] theorem storeChunk_trsp (n : Nat) (data : Buf) (s : State) : (storeChunk n data s).trsp = s.trsp := rfl
@[simp] theorem storeChunk_dly (n : Nat) (data : Buf) (s : State) : (storeChunk n data s).dly = s.dly := rfl
@[simp] theorem storeChunk_rxq (n : Nat) (data : Buf) (s : State) : (storeChunk n data s).rxq = s.rxq := rfl
@[simp] theorem storeChunk_txq (n : Nat) (data : Buf) (s : State) : (storeChunk n data s).txq = s.txq := rfl
@[simp] theorem storeChunk_ckSource (n : Nat) (data : Buf) (s : State) : (storeChunk n data s).ckSource = s.ckSource := rfl
@[simp] theorem storeChunk_ckOut (n : Nat) (data : Buf) (s : State) : (storeChunk n data s).ckOut = s.ckOut := rfl
@[simp] theorem storeChunk_env (n : Nat) (data : Buf) (s : State) : (storeChunk n data s).env = s.env := rfl
@[simp] theorem storeChunk_direct (n : Nat) (data : Buf) (s : State) : (storeChunk n data s).direct = s.direct := rfl
@[simp] theorem storeChunk_fresh (n : Nat) (data : Buf) (s : State) : (storeChunk n data s).fresh = s.fresh := rfl
@[simp] theorem storeChunk_trace (n : Nat) (data : Buf) (s : State) : (storeChunk n data s).trace = s.trace := rfl

/-! ### `huntSync` -/

@[simp] theorem huntSync_acc (s : State) : (huntSync s).acc = s.acc.set 0 params.marker := rfl
@[simp] theorem huntSync_accLen (s : State) : (huntSync s).accLen = 1 := rfl
@[simp] theorem huntSync_scr (s : State) : (huntSync s).scr = s.scr := rfl
@[simp] theorem huntSync_scrN (s : State) : (huntSync s).scrN = s.scrN := rfl
@[simp] theorem huntSync_txf (s : State) : (huntSync s).txf = s.txf := rfl
@[simp] theorem huntSync_txCount (s : State) : (huntSync s).txCount = s.txCount := rfl
@[simp] theorem huntSync_budget (s : State) : (huntSync s).budget = s.budget := rfl
@[simp] theorem huntSync_rs (s : State) : (huntSync s).rs = .accumulating := rfl
@[simp] theorem huntSync_ph (s : State) : (huntSync s).ph = s.ph := rfl
@[simp] theorem huntSync_perr (s : State) : (huntSync s).perr = s.perr := rfl
@[simp] theorem huntSync_err (s : State) : (huntSync s).err = s.err := rfl
@[simp] theorem huntSync_terr (s : State) : (huntSync s).terr = s.terr := rfl
@[simp] theorem huntSync_busy (s : State) : (huntSync s).busy = s.busy := rfl
@[simp] theorem huntSync_done (s : State) : (huntSync s).done = s.done := rfl
@[simp] theorem huntSync_ack (s : State) : (huntSync s).ack = s.ack := rfl
@[simp] theorem huntSync_opCode (s : State) : (huntSync s).opCode = s.opCode := rfl
@[simp] theorem huntSync_opP0 (s : State) : (huntSync s).opP0 = s.opP0 := rfl
@[simp] theorem huntSync_opP1 (s : State) : (huntSync s).opP1 = s.opP1 := rfl
@[simp] theorem huntSync_opP2 (s : State) : (huntSync s).opP2 = s.opP2 := rfl
@[simp] theorem huntSync_opKind (s : State) : (huntSync s).opKind = s.opKind := rfl
@[simp] theorem huntSync_host (s : State) : (huntSync s).host = s.host := rfl
@[simp] theorem huntSync_treq (s : State) : (huntSync s).treq = s.treq := rfl
@[simp] theorem huntSync_trsp (s : State) : (huntSync s).trsp = s.trsp := rfl
@[simp] theorem huntSync_dly (s : State) : (huntSync s).dly = s.dly := rfl
@[simp] theorem huntSync_rxq (s : State) : (huntSync s).rxq = s.rxq := rfl
@[simp] theorem huntSync_txq (s : State) : (huntSync s).txq = s.txq := rfl
@[simp] theorem huntSync_ckSource (s : State) : (huntSync s).ckSource = s.ckSource := rfl
@[simp] theorem huntSync_ckOut (s : State) : (huntSync s).ckOut = s.ckOut := rfl
@[simp] theorem huntSync_env (s : State) : (huntSync s).env = s.env := rfl
@[simp] theorem huntSync_direct (s : State) : (huntSync s).direct = s.direct := rfl
@[simp] theorem huntSync_fresh (s : State) : (huntSync s).fresh = s.fresh := rfl
@[simp] theorem huntSync_trace (s : State) : (huntSync s).trace = s.trace := rfl

/-! ### `accAppend` -/

@[simp] theorem accAppend_acc (b : Byte) (s : State) : (accAppend b s).acc = s.acc.set s.accLen b := rfl
@[simp] theorem accAppend_accLen (b : Byte) (s : State) : (accAppend b s).accLen = s.accLen + 1 := rfl
@[simp] theorem accAppend_scr (b : Byte) (s : State) : (accAppend b s).scr = s.scr := rfl
@[simp] theorem accAppend_scrN (b : Byte) (s : State) : (accAppend b s).scrN = s.scrN := rfl
@[simp] theorem accAppend_txf (b : Byte) (s : State) : (accAppend b s).txf = s.txf := rfl
@[simp] theorem accAppend_txCount (b : Byte) (s : State) : (accAppend b s).txCount = s.txCount := rfl
@[simp] theorem accAppend_budget (b : Byte) (s : State) : (accAppend b s).budget = s.budget := rfl
@[simp] theorem accAppend_rs (b : Byte) (s : State) : (accAppend b s).rs = s.rs := rfl
@[simp] theorem accAppend_ph (b : Byte) (s : State) : (accAppend b s).ph = s.ph := rfl
@[simp] theorem accAppend_perr (b : Byte) (s : State) : (accAppend b s).perr = s.perr := rfl
@[simp] theorem accAppend_err (b : Byte) (s : State) : (accAppend b s).err = s.err := rfl
@[simp] theorem accAppend_terr (b : Byte) (s : State) : (accAppend b s).terr = s.terr := rfl
@[simp] theorem accAppend_busy (b : Byte) (s : State) : (accAppend b s).busy = s.busy := rfl
@[simp] theorem accAppend_done (b : Byte) (s : State) : (accAppend b s).done = s.done := rfl
@[simp] theorem accAppend_ack (b : Byte) (s : State) : (accAppend b s).ack = s.ack := rfl
@[simp] theorem accAppend_opCode (b : Byte) (s : State) : (accAppend b s).opCode = s.opCode := rfl
@[simp] theorem accAppend_opP0 (b : Byte) (s : State) : (accAppend b s).opP0 = s.opP0 := rfl
@[simp] theorem accAppend_opP1 (b : Byte) (s : State) : (accAppend b s).opP1 = s.opP1 := rfl
@[simp] theorem accAppend_opP2 (b : Byte) (s : State) : (accAppend b s).opP2 = s.opP2 := rfl
@[simp] theorem accAppend_opKind (b : Byte) (s : State) : (accAppend b s).opKind = s.opKind := rfl
@[simp] theorem accAppend_host (b : Byte) (s : State) : (accAppend b s).host = s.host := rfl
@[simp] theorem accAppend_treq (b : Byte) (s : State) : (accAppend b s).treq = s.treq := rfl
@[simp] theorem accAppend_trsp (b : Byte) (s : State) : (accAppend b s).trsp = s.trsp := rfl
@[simp] theorem accAppend_dly (b : Byte) (s : State) : (accAppend b s).dly = s.dly := rfl
@[simp] theorem accAppend_rxq (b : Byte) (s : State) : (accAppend b s).rxq = s.rxq := rfl
@[simp] theorem accAppend_txq (b : Byte) (s : State) : (accAppend b s).txq = s.txq := rfl
@[simp] theorem accAppend_ckSource (b : Byte) (s : State) : (accAppend b s).ckSource = s.ckSource := rfl
@[simp] theorem accAppend_ckOut (b : Byte) (s : State) : (accAppend b s).ckOut = s.ckOut := rfl
@[simp] theorem accAppend_env (b : Byte) (s : State) : (accAppend b s).env = s.env := rfl
@[simp] theorem accAppend_direct (b : Byte) (s : State) : (accAppend b s).direct = s.direct := rfl
@[simp] theorem accAppend_fresh (b : Byte) (s : State) : (accAppend b s).fresh = s.fresh := rfl
@[simp] theorem accAppend_trace (b : Byte) (s : State) : (accAppend b s).trace = s.trace := rfl

/-! ### `startFlags` -/

@[simp] theorem startFlags_acc (kind : HostOp) (line : TraceLine) (s : State) : (startFlags kind line s).acc = s.acc := rfl
@[simp] theorem startFlags_accLen (kind : HostOp) (line : TraceLine) (s : State) : (startFlags kind line s).accLen = s.accLen := rfl
@[simp] theorem startFlags_scr (kind : HostOp) (line : TraceLine) (s : State) : (startFlags kind line s).scr = s.scr := rfl
@[simp] theorem startFlags_scrN (kind : HostOp) (line : TraceLine) (s : State) : (startFlags kind line s).scrN = s.scrN := rfl
@[simp] theorem startFlags_txf (kind : HostOp) (line : TraceLine) (s : State) : (startFlags kind line s).txf = s.txf := rfl
@[simp] theorem startFlags_txCount (kind : HostOp) (line : TraceLine) (s : State) : (startFlags kind line s).txCount = s.txCount := rfl
@[simp] theorem startFlags_budget (kind : HostOp) (line : TraceLine) (s : State) : (startFlags kind line s).budget = s.budget := rfl
@[simp] theorem startFlags_rs (kind : HostOp) (line : TraceLine) (s : State) : (startFlags kind line s).rs = s.rs := rfl
@[simp] theorem startFlags_ph (kind : HostOp) (line : TraceLine) (s : State) : (startFlags kind line s).ph = s.ph := rfl
@[simp] theorem startFlags_perr (kind : HostOp) (line : TraceLine) (s : State) : (startFlags kind line s).perr = s.perr := rfl
@[simp] theorem startFlags_err (kind : HostOp) (line : TraceLine) (s : State) : (startFlags kind line s).err = .none := rfl
@[simp] theorem startFlags_terr (kind : HostOp) (line : TraceLine) (s : State) : (startFlags kind line s).terr = Config.freeTerr s.fresh := rfl
@[simp] theorem startFlags_busy (kind : HostOp) (line : TraceLine) (s : State) : (startFlags kind line s).busy = true := rfl
@[simp] theorem startFlags_done (kind : HostOp) (line : TraceLine) (s : State) : (startFlags kind line s).done = false := rfl
@[simp] theorem startFlags_ack (kind : HostOp) (line : TraceLine) (s : State) : (startFlags kind line s).ack = s.ack := rfl
@[simp] theorem startFlags_opCode (kind : HostOp) (line : TraceLine) (s : State) : (startFlags kind line s).opCode = s.opCode := rfl
@[simp] theorem startFlags_opP0 (kind : HostOp) (line : TraceLine) (s : State) : (startFlags kind line s).opP0 = s.opP0 := rfl
@[simp] theorem startFlags_opP1 (kind : HostOp) (line : TraceLine) (s : State) : (startFlags kind line s).opP1 = s.opP1 := rfl
@[simp] theorem startFlags_opP2 (kind : HostOp) (line : TraceLine) (s : State) : (startFlags kind line s).opP2 = s.opP2 := rfl
@[simp] theorem startFlags_opKind (kind : HostOp) (line : TraceLine) (s : State) : (startFlags kind line s).opKind = kind := rfl
@[simp] theorem startFlags_host (kind : HostOp) (line : TraceLine) (s : State) : (startFlags kind line s).host = s.host := rfl
@[simp] theorem startFlags_treq (kind : HostOp) (line : TraceLine) (s : State) : (startFlags kind line s).treq = s.treq := rfl
@[simp] theorem startFlags_trsp (kind : HostOp) (line : TraceLine) (s : State) : (startFlags kind line s).trsp = s.trsp := rfl
@[simp] theorem startFlags_dly (kind : HostOp) (line : TraceLine) (s : State) : (startFlags kind line s).dly = s.dly := rfl
@[simp] theorem startFlags_rxq (kind : HostOp) (line : TraceLine) (s : State) : (startFlags kind line s).rxq = s.rxq := rfl
@[simp] theorem startFlags_txq (kind : HostOp) (line : TraceLine) (s : State) : (startFlags kind line s).txq = s.txq := rfl
@[simp] theorem startFlags_ckSource (kind : HostOp) (line : TraceLine) (s : State) : (startFlags kind line s).ckSource = s.ckSource := rfl
@[simp] theorem startFlags_ckOut (kind : HostOp) (line : TraceLine) (s : State) : (startFlags kind line s).ckOut = s.ckOut := rfl
@[simp] theorem startFlags_env (kind : HostOp) (line : TraceLine) (s : State) : (startFlags kind line s).env = s.env := rfl
@[simp] theorem startFlags_direct (kind : HostOp) (line : TraceLine) (s : State) : (startFlags kind line s).direct = s.direct := rfl
@[simp] theorem startFlags_fresh (kind : HostOp) (line : TraceLine) (s : State) : (startFlags kind line s).fresh = s.fresh + 1 := rfl
@[simp] theorem startFlags_trace (kind : HostOp) (line : TraceLine) (s : State) : (startFlags kind line s).trace = [line] := rfl

/-! ### `latchCommand` -/

@[simp] theorem latchCommand_acc (code p0 p1 p2 : Byte) (s : State) : (latchCommand code p0 p1 p2 s).acc = s.acc := rfl
@[simp] theorem latchCommand_accLen (code p0 p1 p2 : Byte) (s : State) : (latchCommand code p0 p1 p2 s).accLen = s.accLen := rfl
@[simp] theorem latchCommand_scr (code p0 p1 p2 : Byte) (s : State) : (latchCommand code p0 p1 p2 s).scr = s.scr := rfl
@[simp] theorem latchCommand_scrN (code p0 p1 p2 : Byte) (s : State) : (latchCommand code p0 p1 p2 s).scrN = s.scrN := rfl
@[simp] theorem latchCommand_txf (code p0 p1 p2 : Byte) (s : State) : (latchCommand code p0 p1 p2 s).txf = s.txf := rfl
@[simp] theorem latchCommand_txCount (code p0 p1 p2 : Byte) (s : State) : (latchCommand code p0 p1 p2 s).txCount = s.txCount := rfl
@[simp] theorem latchCommand_budget (code p0 p1 p2 : Byte) (s : State) : (latchCommand code p0 p1 p2 s).budget = s.budget := rfl
@[simp] theorem latchCommand_rs (code p0 p1 p2 : Byte) (s : State) : (latchCommand code p0 p1 p2 s).rs = s.rs := rfl
@[simp] theorem latchCommand_ph (code p0 p1 p2 : Byte) (s : State) : (latchCommand code p0 p1 p2 s).ph = s.ph := rfl
@[simp] theorem latchCommand_perr (code p0 p1 p2 : Byte) (s : State) : (latchCommand code p0 p1 p2 s).perr = s.perr := rfl
@[simp] theorem latchCommand_err (code p0 p1 p2 : Byte) (s : State) : (latchCommand code p0 p1 p2 s).err = s.err := rfl
@[simp] theorem latchCommand_terr (code p0 p1 p2 : Byte) (s : State) : (latchCommand code p0 p1 p2 s).terr = s.terr := rfl
@[simp] theorem latchCommand_busy (code p0 p1 p2 : Byte) (s : State) : (latchCommand code p0 p1 p2 s).busy = s.busy := rfl
@[simp] theorem latchCommand_done (code p0 p1 p2 : Byte) (s : State) : (latchCommand code p0 p1 p2 s).done = s.done := rfl
@[simp] theorem latchCommand_ack (code p0 p1 p2 : Byte) (s : State) : (latchCommand code p0 p1 p2 s).ack = s.ack := rfl
@[simp] theorem latchCommand_opCode (code p0 p1 p2 : Byte) (s : State) : (latchCommand code p0 p1 p2 s).opCode = code := rfl
@[simp] theorem latchCommand_opP0 (code p0 p1 p2 : Byte) (s : State) : (latchCommand code p0 p1 p2 s).opP0 = p0 := rfl
@[simp] theorem latchCommand_opP1 (code p0 p1 p2 : Byte) (s : State) : (latchCommand code p0 p1 p2 s).opP1 = p1 := rfl
@[simp] theorem latchCommand_opP2 (code p0 p1 p2 : Byte) (s : State) : (latchCommand code p0 p1 p2 s).opP2 = p2 := rfl
@[simp] theorem latchCommand_opKind (code p0 p1 p2 : Byte) (s : State) : (latchCommand code p0 p1 p2 s).opKind = s.opKind := rfl
@[simp] theorem latchCommand_host (code p0 p1 p2 : Byte) (s : State) : (latchCommand code p0 p1 p2 s).host = s.host := rfl
@[simp] theorem latchCommand_treq (code p0 p1 p2 : Byte) (s : State) : (latchCommand code p0 p1 p2 s).treq = s.treq := rfl
@[simp] theorem latchCommand_trsp (code p0 p1 p2 : Byte) (s : State) : (latchCommand code p0 p1 p2 s).trsp = s.trsp := rfl
@[simp] theorem latchCommand_dly (code p0 p1 p2 : Byte) (s : State) : (latchCommand code p0 p1 p2 s).dly = s.dly := rfl
@[simp] theorem latchCommand_rxq (code p0 p1 p2 : Byte) (s : State) : (latchCommand code p0 p1 p2 s).rxq = s.rxq := rfl
@[simp] theorem latchCommand_txq (code p0 p1 p2 : Byte) (s : State) : (latchCommand code p0 p1 p2 s).txq = s.txq := rfl
@[simp] theorem latchCommand_ckSource (code p0 p1 p2 : Byte) (s : State) : (latchCommand code p0 p1 p2 s).ckSource = s.ckSource := rfl
@[simp] theorem latchCommand_ckOut (code p0 p1 p2 : Byte) (s : State) : (latchCommand code p0 p1 p2 s).ckOut = s.ckOut := rfl
@[simp] theorem latchCommand_env (code p0 p1 p2 : Byte) (s : State) : (latchCommand code p0 p1 p2 s).env = s.env := rfl
@[simp] theorem latchCommand_direct (code p0 p1 p2 : Byte) (s : State) : (latchCommand code p0 p1 p2 s).direct = s.direct := rfl
@[simp] theorem latchCommand_fresh (code p0 p1 p2 : Byte) (s : State) : (latchCommand code p0 p1 p2 s).fresh = s.fresh := rfl
@[simp] theorem latchCommand_trace (code p0 p1 p2 : Byte) (s : State) : (latchCommand code p0 p1 p2 s).trace = s.trace := rfl

/-! ### `initReader` -/

@[simp] theorem initReader_acc (timeout : Millis) (s : State) : (initReader timeout s).acc = s.acc := rfl
@[simp] theorem initReader_accLen (timeout : Millis) (s : State) : (initReader timeout s).accLen = 0 := rfl
@[simp] theorem initReader_scr (timeout : Millis) (s : State) : (initReader timeout s).scr = Buf.zero := rfl
@[simp] theorem initReader_scrN (timeout : Millis) (s : State) : (initReader timeout s).scrN = 0 := rfl
@[simp] theorem initReader_txf (timeout : Millis) (s : State) : (initReader timeout s).txf = s.txf := rfl
@[simp] theorem initReader_txCount (timeout : Millis) (s : State) : (initReader timeout s).txCount = s.txCount := rfl
@[simp] theorem initReader_budget (timeout : Millis) (s : State) : (initReader timeout s).budget = timeout := rfl
@[simp] theorem initReader_rs (timeout : Millis) (s : State) : (initReader timeout s).rs = .hunting := rfl
@[simp] theorem initReader_ph (timeout : Millis) (s : State) : (initReader timeout s).ph = s.ph := rfl
@[simp] theorem initReader_perr (timeout : Millis) (s : State) : (initReader timeout s).perr = .none := rfl
@[simp] theorem initReader_err (timeout : Millis) (s : State) : (initReader timeout s).err = s.err := rfl
@[simp] theorem initReader_terr (timeout : Millis) (s : State) : (initReader timeout s).terr = s.terr := rfl
@[simp] theorem initReader_busy (timeout : Millis) (s : State) : (initReader timeout s).busy = s.busy := rfl
@[simp] theorem initReader_done (timeout : Millis) (s : State) : (initReader timeout s).done = s.done := rfl
@[simp] theorem initReader_ack (timeout : Millis) (s : State) : (initReader timeout s).ack = none := rfl
@[simp] theorem initReader_opCode (timeout : Millis) (s : State) : (initReader timeout s).opCode = s.opCode := rfl
@[simp] theorem initReader_opP0 (timeout : Millis) (s : State) : (initReader timeout s).opP0 = s.opP0 := rfl
@[simp] theorem initReader_opP1 (timeout : Millis) (s : State) : (initReader timeout s).opP1 = s.opP1 := rfl
@[simp] theorem initReader_opP2 (timeout : Millis) (s : State) : (initReader timeout s).opP2 = s.opP2 := rfl
@[simp] theorem initReader_opKind (timeout : Millis) (s : State) : (initReader timeout s).opKind = s.opKind := rfl
@[simp] theorem initReader_host (timeout : Millis) (s : State) : (initReader timeout s).host = s.host := rfl
@[simp] theorem initReader_treq (timeout : Millis) (s : State) : (initReader timeout s).treq = s.treq := rfl
@[simp] theorem initReader_trsp (timeout : Millis) (s : State) : (initReader timeout s).trsp = s.trsp := rfl
@[simp] theorem initReader_dly (timeout : Millis) (s : State) : (initReader timeout s).dly = s.dly := rfl
@[simp] theorem initReader_rxq (timeout : Millis) (s : State) : (initReader timeout s).rxq = s.rxq := rfl
@[simp] theorem initReader_txq (timeout : Millis) (s : State) : (initReader timeout s).txq = s.txq := rfl
@[simp] theorem initReader_ckSource (timeout : Millis) (s : State) : (initReader timeout s).ckSource = s.ckSource := rfl
@[simp] theorem initReader_ckOut (timeout : Millis) (s : State) : (initReader timeout s).ckOut = s.ckOut := rfl
@[simp] theorem initReader_env (timeout : Millis) (s : State) : (initReader timeout s).env = s.env := rfl
@[simp] theorem initReader_direct (timeout : Millis) (s : State) : (initReader timeout s).direct = s.direct := rfl
@[simp] theorem initReader_fresh (timeout : Millis) (s : State) : (initReader timeout s).fresh = s.fresh := rfl
@[simp] theorem initReader_trace (timeout : Millis) (s : State) : (initReader timeout s).trace = s.trace := rfl

/-! ### `resetEdge` -/

@[simp] theorem resetEdge_acc (s : State) : (resetEdge s).acc = Config.freeBuf s.fresh := rfl
@[simp] theorem resetEdge_accLen (s : State) : (resetEdge s).accLen = 0 := rfl
@[simp] theorem resetEdge_scr (s : State) : (resetEdge s).scr = Config.freeBuf (s.fresh + 1) := rfl
@[simp] theorem resetEdge_scrN (s : State) : (resetEdge s).scrN = 0 := rfl
@[simp] theorem resetEdge_txf (s : State) : (resetEdge s).txf = Config.freeBuf (s.fresh + 2) := rfl
@[simp] theorem resetEdge_txCount (s : State) : (resetEdge s).txCount = 0 := rfl
@[simp] theorem resetEdge_budget (s : State) : (resetEdge s).budget = 0 := rfl
@[simp] theorem resetEdge_rs (s : State) : (resetEdge s).rs = .idle := rfl
@[simp] theorem resetEdge_ph (s : State) : (resetEdge s).ph = .idle := rfl
@[simp] theorem resetEdge_perr (s : State) : (resetEdge s).perr = .none := rfl
@[simp] theorem resetEdge_err (s : State) : (resetEdge s).err = .none := rfl
@[simp] theorem resetEdge_terr (s : State) : (resetEdge s).terr = Config.freeTerr s.fresh := rfl
@[simp] theorem resetEdge_busy (s : State) : (resetEdge s).busy = false := rfl
@[simp] theorem resetEdge_done (s : State) : (resetEdge s).done = false := rfl
@[simp] theorem resetEdge_ack (s : State) : (resetEdge s).ack = none := rfl
@[simp] theorem resetEdge_opCode (s : State) : (resetEdge s).opCode = Config.freeByte s.fresh := rfl
@[simp] theorem resetEdge_opP0 (s : State) : (resetEdge s).opP0 = Config.freeByte (s.fresh + 1) := rfl
@[simp] theorem resetEdge_opP1 (s : State) : (resetEdge s).opP1 = Config.freeByte (s.fresh + 2) := rfl
@[simp] theorem resetEdge_opP2 (s : State) : (resetEdge s).opP2 = Config.freeByte (s.fresh + 3) := rfl
@[simp] theorem resetEdge_opKind (s : State) : (resetEdge s).opKind = .none := rfl
@[simp] theorem resetEdge_host (s : State) : (resetEdge s).host = s.host := rfl
@[simp] theorem resetEdge_treq (s : State) : (resetEdge s).treq = { s.treq with req := false } := rfl
@[simp] theorem resetEdge_trsp (s : State) : (resetEdge s).trsp = { s.trsp with rsp := false } := rfl
@[simp] theorem resetEdge_dly (s : State) : (resetEdge s).dly = { s.dly with req := false, done := false } := rfl
@[simp] theorem resetEdge_rxq (s : State) : (resetEdge s).rxq = s.rxq := rfl
@[simp] theorem resetEdge_txq (s : State) : (resetEdge s).txq = s.txq := rfl
@[simp] theorem resetEdge_ckSource (s : State) : (resetEdge s).ckSource = s.ckSource := rfl
@[simp] theorem resetEdge_ckOut (s : State) : (resetEdge s).ckOut = s.ckOut := rfl
@[simp] theorem resetEdge_env (s : State) : (resetEdge s).env = s.env := rfl
@[simp] theorem resetEdge_direct (s : State) : (resetEdge s).direct = s.direct := rfl
@[simp] theorem resetEdge_fresh (s : State) : (resetEdge s).fresh = s.fresh + 4 := rfl
@[simp] theorem resetEdge_trace (s : State) : (resetEdge s).trace = [] := rfl

/-! ### `withReader` -/

@[simp] theorem withReader_acc (rs : ReaderState) (acc : Buf) (accLen : Nat) (s : State) : (withReader rs acc accLen s).acc = acc := rfl
@[simp] theorem withReader_accLen (rs : ReaderState) (acc : Buf) (accLen : Nat) (s : State) : (withReader rs acc accLen s).accLen = accLen := rfl
@[simp] theorem withReader_scr (rs : ReaderState) (acc : Buf) (accLen : Nat) (s : State) : (withReader rs acc accLen s).scr = s.scr := rfl
@[simp] theorem withReader_scrN (rs : ReaderState) (acc : Buf) (accLen : Nat) (s : State) : (withReader rs acc accLen s).scrN = s.scrN := rfl
@[simp] theorem withReader_txf (rs : ReaderState) (acc : Buf) (accLen : Nat) (s : State) : (withReader rs acc accLen s).txf = s.txf := rfl
@[simp] theorem withReader_txCount (rs : ReaderState) (acc : Buf) (accLen : Nat) (s : State) : (withReader rs acc accLen s).txCount = s.txCount := rfl
@[simp] theorem withReader_budget (rs : ReaderState) (acc : Buf) (accLen : Nat) (s : State) : (withReader rs acc accLen s).budget = s.budget := rfl
@[simp] theorem withReader_rs (rs : ReaderState) (acc : Buf) (accLen : Nat) (s : State) : (withReader rs acc accLen s).rs = rs := rfl
@[simp] theorem withReader_ph (rs : ReaderState) (acc : Buf) (accLen : Nat) (s : State) : (withReader rs acc accLen s).ph = s.ph := rfl
@[simp] theorem withReader_perr (rs : ReaderState) (acc : Buf) (accLen : Nat) (s : State) : (withReader rs acc accLen s).perr = s.perr := rfl
@[simp] theorem withReader_err (rs : ReaderState) (acc : Buf) (accLen : Nat) (s : State) : (withReader rs acc accLen s).err = s.err := rfl
@[simp] theorem withReader_terr (rs : ReaderState) (acc : Buf) (accLen : Nat) (s : State) : (withReader rs acc accLen s).terr = s.terr := rfl
@[simp] theorem withReader_busy (rs : ReaderState) (acc : Buf) (accLen : Nat) (s : State) : (withReader rs acc accLen s).busy = s.busy := rfl
@[simp] theorem withReader_done (rs : ReaderState) (acc : Buf) (accLen : Nat) (s : State) : (withReader rs acc accLen s).done = s.done := rfl
@[simp] theorem withReader_ack (rs : ReaderState) (acc : Buf) (accLen : Nat) (s : State) : (withReader rs acc accLen s).ack = s.ack := rfl
@[simp] theorem withReader_opCode (rs : ReaderState) (acc : Buf) (accLen : Nat) (s : State) : (withReader rs acc accLen s).opCode = s.opCode := rfl
@[simp] theorem withReader_opP0 (rs : ReaderState) (acc : Buf) (accLen : Nat) (s : State) : (withReader rs acc accLen s).opP0 = s.opP0 := rfl
@[simp] theorem withReader_opP1 (rs : ReaderState) (acc : Buf) (accLen : Nat) (s : State) : (withReader rs acc accLen s).opP1 = s.opP1 := rfl
@[simp] theorem withReader_opP2 (rs : ReaderState) (acc : Buf) (accLen : Nat) (s : State) : (withReader rs acc accLen s).opP2 = s.opP2 := rfl
@[simp] theorem withReader_opKind (rs : ReaderState) (acc : Buf) (accLen : Nat) (s : State) : (withReader rs acc accLen s).opKind = s.opKind := rfl
@[simp] theorem withReader_host (rs : ReaderState) (acc : Buf) (accLen : Nat) (s : State) : (withReader rs acc accLen s).host = s.host := rfl
@[simp] theorem withReader_treq (rs : ReaderState) (acc : Buf) (accLen : Nat) (s : State) : (withReader rs acc accLen s).treq = s.treq := rfl
@[simp] theorem withReader_trsp (rs : ReaderState) (acc : Buf) (accLen : Nat) (s : State) : (withReader rs acc accLen s).trsp = s.trsp := rfl
@[simp] theorem withReader_dly (rs : ReaderState) (acc : Buf) (accLen : Nat) (s : State) : (withReader rs acc accLen s).dly = s.dly := rfl
@[simp] theorem withReader_rxq (rs : ReaderState) (acc : Buf) (accLen : Nat) (s : State) : (withReader rs acc accLen s).rxq = s.rxq := rfl
@[simp] theorem withReader_txq (rs : ReaderState) (acc : Buf) (accLen : Nat) (s : State) : (withReader rs acc accLen s).txq = s.txq := rfl
@[simp] theorem withReader_ckSource (rs : ReaderState) (acc : Buf) (accLen : Nat) (s : State) : (withReader rs acc accLen s).ckSource = s.ckSource := rfl
@[simp] theorem withReader_ckOut (rs : ReaderState) (acc : Buf) (accLen : Nat) (s : State) : (withReader rs acc accLen s).ckOut = s.ckOut := rfl
@[simp] theorem withReader_env (rs : ReaderState) (acc : Buf) (accLen : Nat) (s : State) : (withReader rs acc accLen s).env = s.env := rfl
@[simp] theorem withReader_direct (rs : ReaderState) (acc : Buf) (accLen : Nat) (s : State) : (withReader rs acc accLen s).direct = s.direct := rfl
@[simp] theorem withReader_fresh (rs : ReaderState) (acc : Buf) (accLen : Nat) (s : State) : (withReader rs acc accLen s).fresh = s.fresh := rfl
@[simp] theorem withReader_trace (rs : ReaderState) (acc : Buf) (accLen : Nat) (s : State) : (withReader rs acc accLen s).trace = s.trace := rfl

end Sys2Proof.Machine
end

