-- ==== Sys2Proof/Laws/Ops.lean ====
section
/-! SUPPORT. What each shared operation can do, said once: the codec, the arithmetic on the budget, waiting for an answer,
the loop head, the scan, the end of a scan, the agents' turn and the step. -/

namespace Sys2Proof.Machine

/-! ## Parameters at their stated values -/

@[simp] theorem params_marker : params.marker = 0xF5 := rfl
@[simp] theorem params_frameLen : params.frameLen = 8 := rfl
@[simp] theorem params_minValidLen : params.minValidLen = 7 := rfl
@[simp] theorem params_pollQuantumMs : params.pollQuantumMs = 100 := rfl
@[simp] theorem params_scratchLen : params.scratchLen = 8 := rfl
@[simp] theorem params_readLen : params.readLen = 8 := rfl
@[simp] theorem params_huntThresh : params.huntThresh = 7 := rfl
@[simp] theorem params_accThresh : params.accThresh = 1 := rfl

/-- The stated values meet the inequalities of spec/92_eei_decisions.md. -/
theorem params_wf : params.wf = true := by decide

/-! ## The codec -/

theorem cksum_bytes (f : Buf) : cksum f = f.b1 ^^^ f.b2 ^^^ f.b3 ^^^ f.b4 ^^^ f.b5 := by
  have h : cksum f = 0 ^^^ f.b1 ^^^ f.b2 ^^^ f.b3 ^^^ f.b4 ^^^ f.b5 := rfl
  simpa using h

theorem buildFrame_bytes (code p0 p1 p2 : Byte) :
    buildFrame code p0 p1 p2 = ⟨0, code, p0, p1, p2, 0, code ^^^ p0 ^^^ p1 ^^^ p2, 0⟩ := by
  have h : cksum (frameBody code p0 p1 p2) = code ^^^ p0 ^^^ p1 ^^^ p2 := by
    rw [cksum_bytes]
    exact BitVec.xor_zero
  simp only [buildFrame, h]
  rfl

theorem decodeAck_bytes (f : Buf) : decodeAck f = ⟨f.b1, f.b2, f.b3⟩ := rfl

theorem checksumOk_iff (s : State) :
    checksumOk s = true ↔
      s.acc.b6 = (checksumSource s).b1 ^^^ (checksumSource s).b2 ^^^ (checksumSource s).b3 ^^^ (checksumSource s).b4 ^^^
        (checksumSource s).b5 := by
  rw [← cksum_bytes]
  exact decide_eq_true_iff

theorem checksumSource_cases (s : State) :
    (s.ckSource = .accumulator ∧ checksumSource s = s.acc) ∨ (s.ckSource = .lastChunk ∧ checksumSource s = s.scr) := by
  cases h : s.ckSource <;> simp [checksumSource, h]

/-! ## The budget -/

theorem satsub_toNat (a b : Millis) : (satsub a b).toNat = a.toNat - b.toNat := by
  unfold satsub
  split
  · next h => exact BitVec.toNat_sub_of_le h
  · next h => simp only [BitVec.le_def] at h; simp; omega

/-! ## Buffers -/

theorem overlay_first (f d : Buf) (n : Nat) (h : n ≤ 8) : (f.overlay d n).first n = d.first n := by
  interval_cases n <;> rfl

theorem first_length (f : Buf) (n : Nat) (h : n ≤ 8) : (f.first n).length = n := by
  simp [Buf.first, Buf.toList, h]

/-! ## Waiting for an answer -/

theorem onAnswer_unanswered {s : State} {k} (h : s.trsp.rsp = false) : onAnswer s k = .next s := by
  simp [onAnswer, h]

theorem onAnswer_answered {s : State} {k} (h : s.trsp.rsp = true) : onAnswer s k = k (takeAnswer s) := by
  simp [onAnswer, h]

/-! ## The loop head -/

/-- R143, R160: everything the loop head can do. -/
theorem loopHead_cases (s : State) :
    (s.budget = 0 ∧ loopHead s = failFlush .ackTimeout s) ∨
      (s.budget ≠ 0 ∧ loopHead s = issue .rAvail .remainingRead 0 0 Buf.zero s) := by
  unfold loopHead
  split
  · next h => exact .inl ⟨h, rfl⟩
  · next h => exact .inr ⟨h, rfl⟩

/-! ## The scan -/

/-- R150: everything the scan of one byte can do. -/
theorem scanByte_cases (s : State) (b : Byte) :
    (s.accLen = 8 ∧ scanByte s b = s) ∨
      (s.accLen ≠ 8 ∧ s.rs = .hunting ∧ b ≠ 0xF5 ∧ scanByte s b = s) ∨
      (s.accLen ≠ 8 ∧ s.rs = .hunting ∧ b = 0xF5 ∧ scanByte s b = huntSync s) ∨
      (s.accLen ≠ 8 ∧ s.rs ≠ .hunting ∧ scanByte s b = accAppend b s) := by
  unfold scanByte
  rw [params_frameLen, params_marker]
  split_ifs with h8 hh hb
  · exact .inl ⟨h8, rfl⟩
  · exact .inr (.inr (.inl ⟨h8, hh, hb, rfl⟩))
  · exact .inr (.inl ⟨h8, hh, hb, rfl⟩)
  · exact .inr (.inr (.inr ⟨h8, hh, rfl⟩))

/-- One byte's scan writes `rs`, `acc`, `acc_len` only, and its result depends on them and the byte only. -/
theorem scanByte_frame (s : State) (b : Byte) :
    scanByte s b = withReader (scanByte s b).rs (scanByte s b).acc (scanByte s b).accLen s := by
  obtain ⟨-, h⟩ | ⟨-, -, -, h⟩ | ⟨-, -, -, h⟩ | ⟨-, -, h⟩ := scanByte_cases s b <;> rw [h] <;> rfl

/-- A chunk's scan writes `rs`, `acc`, `acc_len` only. -/
theorem scanBytes_frame (bytes : List Byte) (s : State) :
    scanBytes bytes s =
      withReader (scanBytes bytes s).rs (scanBytes bytes s).acc (scanBytes bytes s).accLen s := by
  induction bytes generalizing s with
  | nil => rfl
  | cons b rest ih =>
    change scanBytes rest (scanByte s b) =
      withReader (scanBytes rest (scanByte s b)).rs (scanBytes rest (scanByte s b)).acc
        (scanBytes rest (scanByte s b)).accLen s
    obtain ⟨-, h⟩ | ⟨-, -, -, h⟩ | ⟨-, -, -, h⟩ | ⟨-, -, h⟩ := scanByte_cases s b <;> rw [h] <;> exact ih _

theorem scanBytes_nil (s : State) : scanBytes [] s = s := rfl

theorem scanBytes_cons (b : Byte) (rest : List Byte) (s : State) :
    scanBytes (b :: rest) s = scanBytes rest (scanByte s b) := rfl

theorem scanBytes_full (bytes : List Byte) (s : State) (h : s.accLen = 8) : scanBytes bytes s = s := by
  induction bytes with
  | nil => rfl
  | cons b rest ih => rw [scanBytes_cons, show scanByte s b = s by simp [scanByte, h, surplusDrop], ih]

/-- The scan's result on `rs`, `acc`, `acc_len` depends on those three and the bytes only. -/
theorem scanBytes_congr (bytes : List Byte) (s t : State) (hr : s.rs = t.rs) (ha : s.acc = t.acc)
    (hl : s.accLen = t.accLen) :
    (scanBytes bytes s).rs = (scanBytes bytes t).rs ∧ (scanBytes bytes s).acc = (scanBytes bytes t).acc ∧
      (scanBytes bytes s).accLen = (scanBytes bytes t).accLen := by
  induction bytes generalizing s t with
  | nil => exact ⟨hr, ha, hl⟩
  | cons b rest ih =>
    apply ih <;> simp only [scanByte, hr, hl, surplusDrop, huntDiscard] <;> (repeat' split) <;>
      simp_all [huntSync, accAppend]

/-- R149, R150: storing and scanning a chunk of at most 8 bytes scans the bytes of the answer. -/
theorem scanChunk_storeChunk (n : Nat) (data : Buf) (s : State) (h : n ≤ 8) :
    scanChunk (storeChunk n data s) =
      withReader (scanBytes (data.first n) s).rs (scanBytes (data.first n) s).acc (scanBytes (data.first n) s).accLen
        (storeChunk n data s) := by
  obtain ⟨h1, h2, h3⟩ := scanBytes_congr (data.first n) (storeChunk n data s) s rfl rfl rfl
  have hb : (storeChunk n data s).scr.first (storeChunk n data s).scrN = data.first n := overlay_first s.scr data n h
  rw [scanChunk, hb, scanBytes_frame, h1, h2, h3]

/-- R155, R158, R159: everything the end of a scan can do. -/
theorem afterScan_cases (s : State) :
    (s.accLen < 7 ∧ afterScan s = consumeQuantum (resetScratch s)) ∨
      (7 ≤ s.accLen ∧ checksumOk s = true ∧ afterScan s = succeedAck s) ∨
      (7 ≤ s.accLen ∧ checksumOk s = false ∧ afterScan s = failFlush .ackChecksumMismatch s) := by
  unfold afterScan
  by_cases h : s.accLen < 7
  · exact .inl ⟨h, by simp [h]⟩
  · cases hc : checksumOk s
    · exact .inr (.inr ⟨by omega, rfl, by simp [h]⟩)
    · exact .inr (.inl ⟨by omega, rfl, by simp [h]⟩)

theorem afterScan_short {s : State} (h : s.accLen < 7) : afterScan s = consumeQuantum (resetScratch s) := if_pos h

theorem afterScan_good {s : State} (h : 7 ≤ s.accLen) (hc : checksumOk s = true) : afterScan s = succeedAck s :=
  (if_neg (Nat.not_lt.2 h)).trans (if_pos hc)

theorem afterScan_bad {s : State} (h : 7 ≤ s.accLen) (hc : checksumOk s = false) :
    afterScan s = failFlush .ackChecksumMismatch s :=
  (if_neg (Nat.not_lt.2 h)).trans (if_neg (by simp [hc]))

/-! ## The agents' turn and the step -/

/-- Everything the other agents' turn can do. -/
theorem moveEnv_cases (s : State) :
    (s.env = [] ∧ moveEnv s = s) ∨ ∃ e rest, s.env = e :: rest ∧ moveEnv s = applyEnv e { s with env := rest } := by
  cases h : s.env with
  | nil => exact .inl ⟨rfl, by simp [moveEnv, h]⟩
  | cons e rest => exact .inr ⟨e, rest, rfl, by simp [moveEnv, h]⟩

/-- Everything a step that answers a next state can be: the run of what is presented, or the turn of what waits. -/
theorem step_cases {s t : State} (h : step s = .next t) :
    (∃ r i, pending s = some r ∧ decode r = .ok i ∧ exec i { s with direct := none } = .next t) ∨
      (t = noRequest s ∧
        (pending s = none ∨
          ∃ r e, pending s = some r ∧ decode r = .error e ∧ (e = .noStart ∨ e = .hostNone ∨ e = .hostReserved))) := by
  unfold step cycle at h
  cases hp : pending s with
  | none =>
    simp only [hp] at h
    cases h
    exact .inr ⟨rfl, .inl rfl⟩
  | some r =>
    simp only [hp] at h
    cases hd : decode r with
    | ok i =>
      simp only [hd] at h
      exact .inl ⟨r, i, rfl, hd, h⟩
    | error e =>
      simp only [hd] at h
      cases e <;> simp only [onUndecoded] at h <;> cases h <;>
        exact .inr ⟨rfl, .inr ⟨r, _, rfl, hd, by simp⟩⟩

/-- What is presented when nothing is invoked from inside. -/
theorem pending_cases {s : State} {r : Request} (hd : s.direct = none) (h : pending s = some r) :
    (r = .transport s.treq ∧ s.treq.req = true ∧ s.trsp.rsp = true) ∨
      (r = .delay s.dly.ms ∧ s.dly.req = true ∧ s.dly.done = true) ∨
      (r = .host s.host ∧ s.host.start = true ∧ s.busy = false) := by
  unfold pending at h
  simp only [hd] at h
  split at h
  · next hc => cases h; exact .inl ⟨rfl, by simpa using hc⟩
  · split at h
    · next hc => cases h; exact .inr (.inl ⟨rfl, by simpa using hc⟩)
    · split at h
      · next hc => cases h; exact .inr (.inr ⟨rfl, by simpa using hc⟩)
      · cases h

end Sys2Proof.Machine
end

