-- ==== Sys2Proof/Laws/Exec.lean ====
section
/-! SUPPORT. The meanings that wait for an answer or test the phase, as equations: one for each answer, under the
conditions that select it. -/

namespace Sys2Proof.Machine

/-! ## Starts -/

theorem execSend_busy {s : State} (code p0 p1 p2 : Byte) (x : Millis) (h : s.busy = true) :
    execSend code p0 p1 p2 x s = .next s := by
  simp only [execSend, h, if_true]

theorem execSend_start {s : State} (code p0 p1 p2 : Byte) (x : Millis) (h : s.busy = false) :
    execSend code p0 p1 p2 x s =
      .next (issue .sFlushW .flushWrite 0 0 Buf.zero
        (startFlags .send (.send code p0 p1 p2) (latchCommand code p0 p1 p2 s))) := by
  simp only [execSend, h, Bool.false_eq_true, if_false]

theorem execRdack_busy {s : State} (x : Millis) (h : s.busy = true) : execRdack x s = .next s := by
  simp only [execRdack, h, if_true]

theorem execRdack_start {s : State} (x : Millis) (h : s.busy = false) :
    execRdack x s = .next (loopHead (initReader x (startFlags .rdack (.rdack x) s))) := by
  simp only [execRdack, h, Bool.false_eq_true, if_false]

/-! ## Unanswered -/

theorem execRemainingRead_wait {s : State} (h : s.trsp.rsp = false) : execRemainingRead s = .next s :=
  onAnswer_unanswered h

theorem execFlushRead_wait {s : State} (h : s.trsp.rsp = false) : execFlushRead s = .next s :=
  onAnswer_unanswered h

theorem execFlushWrite_wait {s : State} (h : s.trsp.rsp = false) : execFlushWrite s = .next s :=
  onAnswer_unanswered h

theorem execRead_wait {s : State} (len : BitVec 4) (x : Millis) (h : s.trsp.rsp = false) :
    execRead len x s = .next s :=
  onAnswer_unanswered h

theorem execWrite_wait {s : State} (len : BitVec 4) (data : Buf) (h : s.trsp.rsp = false) :
    execWrite len data s = .next s :=
  onAnswer_unanswered h

theorem execDelay_wait {s : State} (ms : Millis) (h : s.dly.done = false) : execDelay ms s = .next s := by
  simp only [execDelay, h, Bool.false_eq_true, if_false]

/-! ## Answered -/

theorem execRemainingRead_err {s : State} (h : s.trsp.rsp = true) (he : s.trsp.err = true) :
    execRemainingRead s =
      .next
        (if s.ph = .rAvail then
          failTransport s.trsp.errval (record (.failed .remainingRead s.trsp.errval) (takeAnswer s))
        else record (.failed .remainingRead s.trsp.errval) (takeAnswer s)) := by
  simp only [execRemainingRead, onAnswer_answered h, takeAnswer_trsp, he, if_true]
  rfl

theorem execRemainingRead_ok {s : State} (h : s.trsp.rsp = true) (he : s.trsp.err = false) :
    execRemainingRead s =
      .next
        (if s.ph = .rAvail then
          if s.trsp.count.toNat < threshold s then
            consumeQuantum (record (.remainingRead s.trsp.count) (takeAnswer s))
          else issueRead (record (.remainingRead s.trsp.count) (takeAnswer s))
        else record (.remainingRead s.trsp.count) (takeAnswer s)) := by
  simp only [execRemainingRead, onAnswer_answered h, takeAnswer_trsp, he, Bool.false_eq_true, if_false]
  rfl

theorem execFlushRead_err {s : State} (h : s.trsp.rsp = true) (he : s.trsp.err = true) :
    execFlushRead s =
      .next
        (if s.ph = .rFlushR then
          failTransport s.trsp.errval (loseRx (record (.failed .flushRead s.trsp.errval) (takeAnswer s)))
        else loseRx (record (.failed .flushRead s.trsp.errval) (takeAnswer s))) := by
  simp only [execFlushRead, onAnswer_answered h, takeAnswer_trsp, he, if_true]
  rfl

theorem execFlushRead_ok {s : State} (h : s.trsp.rsp = true) (he : s.trsp.err = false) :
    execFlushRead s =
      .next
        (if s.ph = .rFlushR then fail s.perr (clearRx (record .flushRead (takeAnswer s)))
        else clearRx (record .flushRead (takeAnswer s))) := by
  simp only [execFlushRead, onAnswer_answered h, takeAnswer_trsp, he, Bool.false_eq_true, if_false]
  rfl

theorem execFlushWrite_err {s : State} (h : s.trsp.rsp = true) (he : s.trsp.err = true) :
    execFlushWrite s =
      .next
        (if s.ph = .sFlushW then
          failTransport s.trsp.errval (loseTx (record (.failed .flushWrite s.trsp.errval) (takeAnswer s)))
        else loseTx (record (.failed .flushWrite s.trsp.errval) (takeAnswer s))) := by
  simp only [execFlushWrite, onAnswer_answered h, takeAnswer_trsp, he, if_true]
  rfl

theorem execFlushWrite_ok {s : State} (h : s.trsp.rsp = true) (he : s.trsp.err = false) :
    execFlushWrite s =
      .next
        (if s.ph = .sFlushW then
          issue .sWrite .write 8 0 (buildFrame s.opCode s.opP0 s.opP1 s.opP2)
            { clearTx (record .flushWrite (takeAnswer s)) with txf := buildFrame s.opCode s.opP0 s.opP1 s.opP2 }
        else clearTx (record .flushWrite (takeAnswer s))) := by
  simp only [execFlushWrite, onAnswer_answered h, takeAnswer_trsp, he, Bool.false_eq_true, if_false]
  rfl

theorem execRead_err {s : State} (len : BitVec 4) (x : Millis) (h : s.trsp.rsp = true) (he : s.trsp.err = true) :
    execRead len x s =
      .next
        (if s.ph = .rRead then
          failTransport s.trsp.errval (loseRx (record (.failed (.read len x) s.trsp.errval) (takeAnswer s)))
        else loseRx (record (.failed (.read len x) s.trsp.errval) (takeAnswer s))) := by
  simp only [execRead, onAnswer_answered h, takeAnswer_trsp, he, if_true]
  rfl

theorem execRead_ok {s : State} (len : BitVec 4) (x : Millis) (h : s.trsp.rsp = true) (he : s.trsp.err = false)
    (hn : countInRange len s = true) :
    execRead len x s =
      .next
        (if s.ph = .rRead then
          onChunk s.trsp.count.toNat s.trsp.rdata
            (popRx s.trsp.count.toNat (record (.read len x (s.trsp.rdata.first s.trsp.count.toNat)) (takeAnswer s)))
        else popRx s.trsp.count.toNat (record (.read len x (s.trsp.rdata.first s.trsp.count.toNat)) (takeAnswer s))) := by
  have hn' : countInRange len (takeAnswer s) = true := hn
  simp only [execRead, onAnswer_answered h, takeAnswer_trsp, he, Bool.false_eq_true, if_false, hn', if_true]
  rfl

theorem execRead_outOfRange {s : State} (len : BitVec 4) (x : Millis) (h : s.trsp.rsp = true)
    (he : s.trsp.err = false) (hn : countInRange len s = false) : execRead len x s = .refused .answerOutOfRange := by
  have hn' : countInRange len (takeAnswer s) = false := hn
  simp only [execRead, onAnswer_answered h, takeAnswer_trsp, he, Bool.false_eq_true, if_false, hn']

theorem execWrite_err {s : State} (len : BitVec 4) (data : Buf) (h : s.trsp.rsp = true) (he : s.trsp.err = true) :
    execWrite len data s =
      .next
        (if s.ph = .sWrite then
          failTransport s.trsp.errval (loseTx (record (.failed (.write data) s.trsp.errval) (takeAnswer s)))
        else loseTx (record (.failed (.write data) s.trsp.errval) (takeAnswer s))) := by
  simp only [execWrite, onAnswer_answered h, takeAnswer_trsp, he, if_true]
  rfl

theorem execWrite_ok {s : State} (len : BitVec 4) (data : Buf) (h : s.trsp.rsp = true) (he : s.trsp.err = false)
    (hn : countInRange len s = true) :
    execWrite len data s =
      .next
        (if s.ph = .sWrite then
          complete .none
            { pushTx (data.first s.trsp.count.toNat) (record (.write data s.trsp.count.toNat) (takeAnswer s)) with
              txCount := s.trsp.count.toNat }
        else pushTx (data.first s.trsp.count.toNat) (record (.write data s.trsp.count.toNat) (takeAnswer s))) := by
  have hn' : countInRange len (takeAnswer s) = true := hn
  simp only [execWrite, onAnswer_answered h, takeAnswer_trsp, he, Bool.false_eq_true, if_false, hn', if_true]
  rfl

theorem execWrite_outOfRange {s : State} (len : BitVec 4) (data : Buf) (h : s.trsp.rsp = true)
    (he : s.trsp.err = false) (hn : countInRange len s = false) :
    execWrite len data s = .refused .answerOutOfRange := by
  have hn' : countInRange len (takeAnswer s) = false := hn
  simp only [execWrite, onAnswer_answered h, takeAnswer_trsp, he, Bool.false_eq_true, if_false, hn']

theorem execDelay_done {s : State} (ms : Millis) (h : s.dly.done = true) :
    execDelay ms s =
      .next
        (if s.ph = .rDelay then loopHead (record (.delay ms) (takeDelay s)) else record (.delay ms) (takeDelay s)) := by
  simp only [execDelay, h, if_true]
  rfl

/-- R148, R149 to R159: what a waiting reader does with a chunk of at most 8 bytes. -/
theorem onChunk_cases (n : Nat) (data : Buf) (s : State) :
    (n = 0 ∧ onChunk n data s = failFlush .ackTimeout s) ∨
      (n ≠ 0 ∧ onChunk n data s = afterScan (scanChunk (storeChunk n data s))) := by
  unfold onChunk
  split
  · next h => exact .inl ⟨h, rfl⟩
  · next h => exact .inr ⟨h, rfl⟩

theorem countInRange_eight (s : State) : countInRange 8 s = true ↔ s.trsp.count.toNat ≤ 8 := by
  rw [countInRange, Bool.and_eq_true]
  exact ⟨fun h => of_decide_eq_true h.2, fun h => ⟨decide_eq_true h, decide_eq_true h⟩⟩

/-- R147 to R150: a waiting reader's READ answered with 1 to 8 bytes: the chunk is stored, scanned, and the end of the scan
decides. -/
theorem execRead_chunk {s : State} (x : Millis) (h : s.trsp.rsp = true) (he : s.trsp.err = false)
    (hp : s.ph = .rRead) (h1 : 1 ≤ s.trsp.count.toNat) (h8 : s.trsp.count.toNat ≤ 8) :
    execRead 8 x s =
      .next (afterScan (withReader (scanBytes (s.trsp.rdata.first s.trsp.count.toNat) s).rs
        (scanBytes (s.trsp.rdata.first s.trsp.count.toNat) s).acc
        (scanBytes (s.trsp.rdata.first s.trsp.count.toNat) s).accLen
        (storeChunk s.trsp.count.toNat s.trsp.rdata (popRx s.trsp.count.toNat
          (record (.read 8 x (s.trsp.rdata.first s.trsp.count.toNat)) (takeAnswer s)))))) := by
  rw [execRead_ok 8 x h he ((countInRange_eight s).2 h8), if_pos hp]
  obtain ⟨h0, -⟩ | ⟨-, hc⟩ := onChunk_cases s.trsp.count.toNat s.trsp.rdata (popRx s.trsp.count.toNat
    (record (.read 8 x (s.trsp.rdata.first s.trsp.count.toNat)) (takeAnswer s)))
  · omega
  · obtain ⟨e1, e2, e3⟩ := scanBytes_congr (s.trsp.rdata.first s.trsp.count.toNat) (popRx s.trsp.count.toNat
      (record (.read 8 x (s.trsp.rdata.first s.trsp.count.toNat)) (takeAnswer s))) s rfl rfl rfl
    rw [hc, scanChunk_storeChunk _ _ _ h8, e1, e2, e3]

end Sys2Proof.Machine
end

