-- ==== Sys2Proof/Laws/PerInstr.lean ====
section
/-! SUPPORT. The family OpcodeBits: what the encoder presents for an instruction carries the bits spec/opcode_table.json
fixes for its row, whatever the operands. -/

namespace Sys2Proof.Laws.OpcodeBits

/-- The bits of a request that the table's "match" and "mask" speak of: `h_op`, `t_op`, the scanned byte, or the 64-bit
picture of a frame (a 7-byte acknowledgement is pictured with byte 7 zero). The other rows have no opcode bits. -/
def bits : Request → Nat
  | .host h => h.op.toNat
  | .transport t => t.op.toNat
  | .delay _ => 0
  | .wire bytes => (framePicture (Buf.ofList bytes)).toNat
  | .scan _ b => b.toNat
  | .cksum _ => 0
  | .build _ _ _ _ => 0

/-- The row's "mask". -/
def mask : Instr → Nat
  | .cksum _ => 0x0
  | .build _ _ _ _ => 0x0
  | .send _ _ _ _ _ => 0x3
  | .rdack _ => 0x3
  | .cmd _ _ _ _ _ => 0xFF00000000FF00FF
  | .ack _ _ _ _ _ _ _ => 0xFF00000000000000
  | .huntDiscard _ => 0x00
  | .huntSync => 0xFF
  | .accAppend _ => 0x00
  | .surplusDrop _ => 0x00
  | .remainingRead => 0x7
  | .flushRead => 0x7
  | .flushWrite => 0x7
  | .read _ _ => 0x7
  | .write _ _ => 0x7
  | .delay _ => 0x0

/-- The row's "match". -/
def row : Instr → Nat
  | .cksum _ => 0x0
  | .build _ _ _ _ => 0x0
  | .send _ _ _ _ _ => 0x1
  | .rdack _ => 0x2
  | .cmd _ _ _ _ _ => 0x0000000000000000
  | .ack _ _ _ _ _ _ _ => 0xF500000000000000
  | .huntDiscard _ => 0x00
  | .huntSync => 0xF5
  | .accAppend _ => 0x00
  | .surplusDrop _ => 0x00
  | .remainingRead => 0x0
  | .flushRead => 0x1
  | .flushWrite => 0x2
  | .read _ _ => 0x3
  | .write _ _ => 0x4
  | .delay _ => 0x0

/-- The encoded instruction has the row's fixed bits. -/
def Statement (i : Instr) : Prop := bits (encode i) &&& mask i = row i

/-- A frame's picture under a mask of whole bytes. -/
theorem picture_and (f : Buf) (m : BitVec 64) :
    (framePicture f).toNat &&& m.toNat = (framePicture f &&& m).toNat := by
  rw [BitVec.toNat_and]

theorem cksum (buf : Buf) : Statement (.cksum buf) :=
  show (0 : Nat) &&& 0 = 0 from rfl

theorem build (code p0 p1 p2 : Byte) : Statement (.build code p0 p1 p2) :=
  show (0 : Nat) &&& 0 = 0 from rfl

theorem send (code p0 p1 p2 : Byte) (timeout : Millis) : Statement (.send code p0 p1 p2 timeout) :=
  show (1 : Nat) &&& 3 = 1 from rfl

theorem rdack (timeout : Millis) : Statement (.rdack timeout) :=
  show (2 : Nat) &&& 3 = 2 from rfl

theorem picture_cmd (c a b d k : Byte) :
    framePicture ⟨0, c, a, b, d, 0, k, 0⟩ &&& 0xFF00000000FF00FF = 0 := by
  apply BitVec.eq_of_getLsbD_eq
  intro i hi
  simp only [framePicture, BitVec.getLsbD_and, BitVec.getLsbD_append]
  interval_cases i <;> simp

theorem cmd (c a b d k : Byte) : Statement (.cmd c a b d k) := by
  change (framePicture ⟨0, c, a, b, d, 0, k, 0⟩).toNat &&& (0xFF00000000FF00FF : BitVec 64).toNat = 0
  rw [picture_and, picture_cmd]
  rfl

theorem picture_ack (t q r u v k w : Byte) :
    framePicture ⟨0xF5, t, q, r, u, v, k, w⟩ &&& 0xFF00000000000000 = 0xF500000000000000 := by
  apply BitVec.eq_of_getLsbD_eq
  intro i hi
  simp only [framePicture, BitVec.getLsbD_and, BitVec.getLsbD_append]
  interval_cases i <;> simp

theorem ack (t q r u v k : Byte) (w : Option Byte) : Statement (.ack t q r u v k w) := by
  cases w <;>
    exact (picture_and _ (0xFF00000000000000 : BitVec 64)).trans (congrArg BitVec.toNat (picture_ack t q r u v k _))

theorem huntDiscard (b : Byte) : Statement (.huntDiscard b) := Nat.and_zero _

theorem huntSync : Statement .huntSync := rfl

theorem accAppend (b : Byte) : Statement (.accAppend b) := Nat.and_zero _

theorem surplusDrop (b : Byte) : Statement (.surplusDrop b) := Nat.and_zero _

theorem remainingRead : Statement .remainingRead := rfl

theorem flushRead : Statement .flushRead := rfl

theorem flushWrite : Statement .flushWrite := rfl

theorem read (len : BitVec 4) (timeout : Millis) : Statement (.read len timeout) :=
  show (3 : Nat) &&& 7 = 3 from rfl

theorem write (len : BitVec 4) (data : Buf) : Statement (.write len data) :=
  show (4 : Nat) &&& 7 = 4 from rfl

theorem delay (ms : Millis) : Statement (.delay ms) :=
  show (0 : Nat) &&& 0 = 0 from rfl

end Sys2Proof.Laws.OpcodeBits
end

