-- ==== Sys2Proof/Tests/Slice0.lean ====
section
/-! SUPPORT. The model's own tests: ill-formed terms, words written out from the spec's encodings, single steps of the
spec's vectors (spec/95_test_vectors.md), and for every statement with hypotheses a state and operands that meet them. -/

namespace Sys2Proof.Tests

open Sys2Proof Sys2Proof.Machine

/-! ## WellFormed: a term each check refuses -/

theorem test_wf_cmd_checksum : (Instr.cmd 0x2D 0x12 0x34 0x56 0x5C).wellFormed = false := by decide
theorem test_wf_ack_checksum : (Instr.ack 0x10 0x03 0 0 0 0x12 none).wellFormed = false := by decide
theorem test_wf_discard_marker : (Instr.huntDiscard 0xF5).wellFormed = false := by decide
theorem test_wf_read_len : (Instr.read 7 100).wellFormed = false := by decide
theorem test_wf_read_timeout : (Instr.read 8 0).wellFormed = false := by decide
theorem test_wf_write_len : (Instr.write 9 Buf.zero).wellFormed = false := by decide
theorem test_wf_delay_ms : (Instr.delay 99).wellFormed = false := by decide
theorem test_wf_accepts :
    (Instr.cmd 0x2D 0x12 0x34 0x56 0x5D).wellFormed = true ∧ (Instr.ack 0x10 0x03 0 0 0 0x13 none).wellFormed = true ∧
      (Instr.huntDiscard 0xF4).wellFormed = true ∧ (Instr.read 8 1).wellFormed = true ∧
      (Instr.write 8 Buf.zero).wellFormed = true ∧ (Instr.delay 100).wellFormed = true := by decide

/-! ## Decode: every constructor, from the spec's own encoding -/

/-- R101: `h_op` = 1. -/
theorem test_decode_send :
    decode (.host { start := true, op := 0b01, code := 0x2D, p0 := 0x12, p1 := 0x34, p2 := 0x56, timeout := 7 }) =
      .ok (.send 0x2D 0x12 0x34 0x56 7) := by decide
/-- R101: `h_op` = 2. -/
theorem test_decode_rdack : decode (.host { start := true, op := 0b10, timeout := 500 }) = .ok (.rdack 500) := by decide
/-- R39: `h_op` = 0 and 3, and `h_start` = 0. -/
theorem test_decode_nothing :
    decode (.host { start := true, op := 0b00 }) = .error .hostNone ∧
      decode (.host { start := true, op := 0b11 }) = .error .hostReserved ∧
      decode (.host { start := false, op := 0b01 }) = .error .noStart := by decide
/-- R91: `00000000 cccccccc aaaaaaaa bbbbbbbb dddddddd 00000000 kkkkkkkk 00000000`, V-B2's frame. -/
theorem test_decode_cmd :
    decode (.wire [0b00000000, 0b00001100, 0b00000000, 0b00000001, 0b00000011, 0b00000000, 0b00001110, 0b00000000]) =
      .ok (.cmd 0x0C 0x00 0x01 0x03 0x0E) := by decide
/-- R92: `11110101 tttttttt qqqqqqqq rrrrrrrr uuuuuuuu vvvvvvvv kkkkkkkk wwwwwwww`. -/
theorem test_decode_ack :
    decode (.wire [0b11110101, 0b00010000, 0b00000011, 0b00000001, 0b00000010, 0b00000100, 0b00010100, 0b10000000]) =
      .ok (.ack 0x10 0x03 0x01 0x02 0x04 0x14 (some 0x80)) := by decide
/-- R107: seven bytes. -/
theorem test_decode_ack_short :
    decode (.wire [0xF5, 0x10, 0x03, 0x00, 0x00, 0x00, 0x13]) = .ok (.ack 0x10 0x03 0x00 0x00 0x00 0x13 none) := by decide
/-- R91, R92, R103: bytes that are neither format. -/
theorem test_decode_no_frame :
    decode (.wire [0x01, 0, 0, 0, 0, 0, 0, 0]) = .error .noFrameStart ∧
      decode (.wire [0, 1, 0, 0, 0, 1, 1, 0]) = .error .cmdReserved ∧
      decode (.wire [0, 1, 0, 0, 0, 0, 1, 1]) = .error .cmdReserved ∧
      decode (.wire [0xF5, 0, 0]) = .error .frameLength := by decide
/-- R97, R106, R151 to R154: 0xF5 against its neighbour in one bit, in each context. -/
theorem test_decode_scan :
    decode (.scan .hunting 0b11110101) = .ok .huntSync ∧ decode (.scan .hunting 0b11110100) = .ok (.huntDiscard 0xF4) ∧
      decode (.scan .room 0b11110101) = .ok (.accAppend 0xF5) ∧
      decode (.scan .full 0b11110101) = .ok (.surplusDrop 0xF5) := by decide
/-- R102: `t_op` 0 to 4. -/
theorem test_decode_transport :
    decode (.transport { req := true, op := 0b000 }) = .ok .remainingRead ∧
      decode (.transport { req := true, op := 0b001 }) = .ok .flushRead ∧
      decode (.transport { req := true, op := 0b010 }) = .ok .flushWrite ∧
      decode (.transport { req := true, op := 0b011, len := 8, timeout := 900 }) = .ok (.read 8 900) ∧
      decode (.transport { req := true, op := 0b100, len := 8, wdata := ⟨0, 9, 0, 0, 0, 0, 9, 0⟩ }) =
        .ok (.write 8 ⟨0, 9, 0, 0, 0, 0, 9, 0⟩) := by decide
/-- R102: `t_op` 5, 6, 7. -/
theorem test_decode_transport_reserved :
    decode (.transport { req := true, op := 0b101 }) = .error .transportReserved ∧
      decode (.transport { req := true, op := 0b110 }) = .error .transportReserved ∧
      decode (.transport { req := true, op := 0b111 }) = .error .transportReserved := by decide
/-- R42, R120, R123: the rows with no opcode bits. -/
theorem test_decode_no_bits :
    decode (.delay 100) = .ok (.delay 100) ∧ decode (.cksum Buf.zero) = .ok (.cksum Buf.zero) ∧
      decode (.build 1 2 3 4) = .ok (.build 1 2 3 4) := by decide
/-- R90: byte 0 in bits 63 to 56. -/
theorem test_table_word_cmd :
    decodeTableWord 64 0x002D123456005D00 = some (.cmd 0x2D 0x12 0x34 0x56 0x5D) := by decide
theorem test_table_word_ack :
    decodeTableWord 64 0xF510030000001300 = some (.ack 0x10 0x03 0x00 0x00 0x00 0x13 (some 0x00)) := by decide
theorem test_table_word_ack_short :
    decodeTableWord 56 0xF5100300000013 = some (.ack 0x10 0x03 0x00 0x00 0x00 0x13 none) := by decide
theorem test_table_word_ports :
    decodeTableWord 2 2 = some (.rdack 0) ∧ decodeTableWord 3 2 = some .flushWrite ∧
      decodeTableWord 8 0xF5 = some .huntSync ∧ decodeTableWord 0 0 = some (.delay 100) ∧
      decodeTableWord 2 3 = none ∧ decodeTableWord 3 7 = none := by decide

/-! ## States -/

/-- A test on the next state; false where there is none. -/
def after (o : Host.Outcome State Fault Refusal) (p : State → Bool) : Bool :=
  match o with
  | .next t => p t
  | .fault _ => false
  | .refused _ => false

/-- RDACK 1000 waiting on its first poll, which is answered with a count. -/
def polling (n : Count) : State :=
  { State.reset with
    busy := true, opKind := .rdack, rs := .hunting, ph := .rAvail, budget := 1000
    treq := { req := true, op := 0 }, trsp := { rsp := true, count := n }, trace := [.rdack 1000] }

/-- RDACK 1000 waiting on its first READ, which is answered with `n` bytes. -/
def reading (data : Buf) (n : Count) : State :=
  { State.reset with
    busy := true, opKind := .rdack, rs := .hunting, ph := .rRead, budget := 1000, rxq := data.toList
    treq := { req := true, op := 3, len := 8, timeout := 1000 }
    trsp := { rsp := true, count := n, rdata := data }, trace := [.remainingRead 8, .rdack 1000] }

/-- RDACK waiting on a completed delay after a threshold miss. -/
def delaying (timeout budget : Millis) : State :=
  { State.reset with
    busy := true, opKind := .rdack, rs := .hunting, ph := .rDelay, budget := budget
    dly := { req := true, ms := 100, done := true }, trace := [.remainingRead 0, .rdack timeout] }

/-- RDACK 0 waiting on its flush, answered `Ok` or `Err(0xC0DE)`. -/
def flushing (err : Bool) : State :=
  { State.reset with
    busy := true, opKind := .rdack, rs := .hunting, ph := .rFlushR, perr := .ackTimeout, rxq := [1, 2]
    treq := { req := true, op := 1 }, trsp := { rsp := true, err := err, errval := 0xC0DE }, trace := [.rdack 0] }

/-- V-S2: SEND 0x0C, 0, 1, 3 waiting on FLUSH_WRITE, two stale bytes queued. -/
def flushingWrite (err : Bool) : State :=
  { State.reset with
    busy := true, opKind := .send, opCode := 0x0C, opP1 := 1, opP2 := 3, ph := .sFlushW, txq := [0xEE, 0xEE]
    treq := { req := true, op := 2 }, trsp := { rsp := true, err := err, errval := 0x51 }
    trace := [.send 0x0C 0 1 3] }

/-- V-S2, V-S5: the same SEND waiting on WRITE. -/
def writing (n : Count) (err : Bool) : State :=
  { State.reset with
    busy := true, opKind := .send, opCode := 0x0C, opP1 := 1, opP2 := 3, ph := .sWrite
    txf := ⟨0, 0x0C, 0, 1, 3, 0, 0x0E, 0⟩
    treq := { req := true, op := 4, len := 8, wdata := ⟨0, 0x0C, 0, 1, 3, 0, 0x0E, 0⟩ }
    trsp := { rsp := true, err := err, errval := 0x52, count := n }
    trace := [.flushWrite, .send 0x0C 0 1 3] }

/-- The reader while ACCUMULATING with `n` bytes of S1's message. -/
def accumulating (n : Nat) : State :=
  { State.reset with rs := .accumulating, acc := ⟨0xF5, 0x10, 3, 0, 0, 0, 0x13, 0⟩, accLen := n }

/-- The reader while HUNTING. -/
def hunting : State := { State.reset with rs := .hunting }

/-- S1's message. -/
def message : Buf := ⟨0xF5, 0x10, 3, 0, 0, 0, 0x13, 0⟩

/-! ## Single steps of the spec's vectors -/

/-- V-C4, V-C5, V-C10, V-C13. -/
theorem test_cksum :
    cksum ⟨0x00, 0x01, 0x02, 0x04, 0x08, 0x10, 0x00, 0x00⟩ = 0x1F ∧
      cksum ⟨0xAA, 0x01, 0x02, 0x04, 0x08, 0x10, 0x55, 0x77⟩ = 0x1F ∧
      cksum ⟨0xFF, 0xFF, 0xFF, 0xFF, 0xFF, 0xFF, 0xFF, 0xFF⟩ = 0xFF ∧
      cksum ⟨0xAA, 0xF5, 0x10, 0x03, 0x00, 0x00, 0x00, 0x13⟩ = 0xE6 := by decide
theorem test_exec_cksum : after (exec (.cksum message) State.reset) (fun t => t.ckOut = 0x13) = true := by decide
/-- V-B3. -/
theorem test_build :
    after (exec (.build 0x2D 0x12 0x34 0x56) State.reset)
      (fun t => t.txf = ⟨0x00, 0x2D, 0x12, 0x34, 0x56, 0x00, 0x5D, 0x00⟩) = true := by decide
/-- V-S1, start. -/
theorem test_send_start :
    after (exec (.send 0x09 0 0 0 0xFFFFFFFF) State.reset)
      (fun t => t.busy && t.ph = .sFlushW && t.treq.req && t.treq.op = 2 && t.budget = 0) = true := by decide
/-- V-S2, line 0. -/
theorem test_flush_write :
    after (exec .flushWrite (flushingWrite false))
      (fun t => t.txq = [] && t.treq.op = 4 && t.treq.wdata = ⟨0, 0x0C, 0, 1, 3, 0, 0x0E, 0⟩) = true := by decide
/-- V-S4. -/
theorem test_flush_write_fails :
    after (exec .flushWrite (flushingWrite true))
      (fun t => t.err = .transportFailure && t.terr = 0x51 && t.done && t.txf = Buf.zero) = true := by decide
/-- V-S2, line 1: a short write of 3. -/
theorem test_write_short :
    after (exec (.write 8 ⟨0, 0x0C, 0, 1, 3, 0, 0x0E, 0⟩) (writing 3 false))
      (fun t => t.err = .none && t.txCount = 3 && t.txq = [0x00, 0x0C, 0x00]) = true := by decide
/-- V-S5. -/
theorem test_write_fails :
    after (exec (.write 8 ⟨0, 0x0C, 0, 1, 3, 0, 0x0E, 0⟩) (writing 0 true))
      (fun t => t.err = .transportFailure && t.terr = 0x52 && t.txCount = 0 &&
        t.trace.head? = some (.failed (.write ⟨0, 0x0C, 0, 1, 3, 0, 0x0E, 0⟩) 0x52)) = true := by decide
/-- V-H7. -/
theorem test_rdack_zero :
    after (exec (.rdack 0) State.reset)
      (fun t => t.ph = .rFlushR && t.treq.op = 1 && t.rs = .hunting && t.perr = .ackTimeout) = true := by decide
/-- V-R6, V-R7: 7 bytes are read, 6 are not; V-R7's budget of 150 becomes 50. -/
theorem test_poll_reads :
    after (exec .remainingRead (polling 7))
      (fun t => t.ph = .rRead && t.treq.op = 3 && t.treq.len = 8 && t.treq.timeout = 1000) = true := by decide
theorem test_poll_delays :
    after (exec .remainingRead { polling 6 with budget := 150 })
      (fun t => t.ph = .rDelay && t.budget = 50 && t.dly.ms = 100 && !t.treq.req) = true := by decide
/-- V-R1, line 1: six bytes accumulated, a short iteration; V-R9 in both modes. -/
theorem test_read_chunks :
    after (exec (.read 8 1000) (reading ⟨0, 0, 0xF5, 0x10, 3, 0, 0, 0⟩ 8))
        (fun t => t.accLen = 6 && t.budget = 900 && t.ph = .rDelay && t.scr = Buf.zero && t.rxq = []) = true ∧
      after (exec (.read 8 1000) (reading ⟨0xAA, 0xF5, 0x10, 3, 0, 0, 0, 0x13⟩ 8))
        (fun t => t.ack = some ⟨0x10, 0x03, 0x00⟩ && t.rs = .validated && t.done && t.budget = 1000) = true ∧
      after (exec (.read 8 1000) { reading ⟨0xAA, 0xF5, 0x10, 3, 0, 0, 0, 0x13⟩ 8 with ckSource := .lastChunk })
        (fun t => t.ack = none && t.ph = .rFlushR && t.perr = .ackChecksumMismatch) = true := by decide
/-- V-F2, line 1: the failed READ's line keeps its operands. -/
theorem test_read_fails :
    after (exec (.read 8 1000) { reading message 8 with trsp := { rsp := true, err := true, errval := 0xBEEF } })
      (fun t => t.err = .transportFailure && t.terr = 0xBEEF &&
        t.trace.head? = some (.failed (.read 8 1000) 0xBEEF)) = true := by decide
/-- V-F4, and V-R7's last line. -/
theorem test_flush_read :
    after (exec .flushRead (flushing false))
      (fun t => t.err = .ackTimeout && t.rs = .failed && t.rxq = [] && t.done) = true := by decide
theorem test_flush_read_fails :
    after (exec .flushRead (flushing true))
      (fun t => t.err = .transportFailure && t.terr = 0xC0DE && t.rs = .failed) = true := by decide
/-- V-R3, line 2 to 3; V-R7. -/
theorem test_delay :
    after (exec (.delay 100) (delaying 1000 900)) (fun t => t.ph = .rAvail && t.budget = 900) = true ∧
      after (exec (.delay 100) (delaying 100 0)) (fun t => t.ph = .rFlushR && t.perr = .ackTimeout) = true := by decide
/-- V-A1, V-A2. -/
theorem test_hunt_discard : after (exec (.huntDiscard 0xF4) hunting) (fun t => t = hunting) = true := by decide
/-- V-A3. -/
theorem test_hunt_sync :
    after (exec .huntSync hunting) (fun t => t.rs = .accumulating && t.accLen = 1 && t.acc.b0 = 0xF5) = true := by decide
/-- V-A5, V-A6. -/
theorem test_acc_append :
    after (exec (.accAppend 0xF5) (accumulating 1)) (fun t => t.accLen = 2 && t.acc.b1 = 0xF5) = true ∧
      after (exec (.accAppend 0x00) (accumulating 7)) (fun t => t.accLen = 8 && t.acc = message) = true := by decide
/-- V-A7. -/
theorem test_surplus_drop :
    after (exec (.surplusDrop 0xF5) (accumulating 8)) (fun t => t = accumulating 8) = true := by decide
/-- 20_memory.md R67: index 0 first. -/
theorem test_wire :
    after (exec (.cmd 0x09 0 0 0 0x09) State.reset) (fun t => t.txq = [0x00, 0x09, 0, 0, 0, 0, 0x09, 0]) = true ∧
      after (exec (.ack 0x10 3 0 0 0 0x13 none) State.reset) (fun t => t.rxq = [0xF5, 0x10, 3, 0, 0, 0, 0x13]) = true := by
  decide
/-- V-H2, V-H3. -/
theorem test_start_nothing :
    after (step { State.reset with host := { start := true, op := 3 } }) (fun t => !t.busy && t.ph = .idle) = true ∧
      after (step { State.reset with host := { start := true, op := 0 } }) (fun t => !t.busy && t.ph = .idle) = true := by
  decide
/-- V-H1, by R35's "valid when" column. -/
theorem test_reset_outputs :
    hostOut State.reset = ⟨false, false, none, none, none, 0, false, none, none, none, none⟩ := by decide
/-- V-H6: reset while RDACK waits in PH_R_READ. -/
theorem test_reset_edge :
    after (step { reading message 8 with trsp := {}, env := [.rst] })
      (fun t => t.ph = .idle && t.rs = .idle && !t.busy && !t.done && !t.treq.req && t.rxq = message.toList) = true := by
  decide
/-- The table's words run as the first operation after reset. -/
theorem test_fetch_word :
    after (step (State.reset.withFetchWord 2 1)) (fun t => t.ph = .sFlushW) = true ∧
      after (step (State.reset.withFetchWord 2 2)) (fun t => t.ph = .rFlushR) = true ∧
      after (step (State.reset.withFetchWord 64 0xF510030000001300)) (fun t => t.rxq = message.toList) = true := by decide
/-- R42: `d_ms` is 100 at reset and on the delay row's word, which has no bits. -/
theorem test_fetch_word_delay :
    State.reset.dly.ms = 100 ∧
      after (step (State.reset.withFetchWord 0 0)) (fun t => t.trace.head? = some (.delay 100) && !t.dly.req) = true := by
  decide
theorem test_fetch_word_transport :
    after (step (State.reset.withFetchWord 3 0)) (fun t => t.ph = .rDelay) = true ∧
      after (step (State.reset.withFetchWord 3 3)) (fun t => t.ph = .rFlushR) = true ∧
      after (step (State.reset.withFetchWord 3 4)) (fun t => t.done) = true := by decide

/-! ## The invariants on the waiting states -/

theorem polling_inv (n : Count) : Inv (polling n) := by
  constructor <;> simp [polling, State.reset, Phase.inLoop, Phase.outstanding, TOp.code]

theorem reading_inv (data : Buf) (n : Count) : Inv (reading data n) := by
  constructor <;> simp [reading, State.reset, Phase.inLoop, Phase.outstanding, TOp.code]

theorem delaying_inv (x b : Millis) : Inv (delaying x b) := by
  constructor <;> simp [delaying, State.reset, Phase.inLoop, Phase.outstanding]

theorem flushing_inv (e : Bool) : Inv (flushing e) := by
  constructor <;> simp [flushing, State.reset, Phase.inLoop, Phase.outstanding, TOp.code]

theorem flushingWrite_inv (e : Bool) : Inv (flushingWrite e) := by
  constructor <;> simp [flushingWrite, State.reset, Phase.inLoop, Phase.outstanding, TOp.code]

theorem writing_inv (n : Count) (e : Bool) : Inv (writing n e) := by
  constructor <;> simp [writing, State.reset, Phase.inLoop, Phase.outstanding, TOp.code, buildFrame_bytes]

theorem polling_trace (n : Count) : TraceOk (polling n) := by
  refine ⟨fun h => ?_, fun h => ?_, fun _ => ⟨?_, fun _ => ?_⟩⟩
  · simp [polling] at h
  · simp [polling] at h
  · rfl
  · simp [polling, seenMarker]

theorem reading_trace (data : Buf) (n : Count) : TraceOk (reading data n) := by
  refine ⟨fun h => ?_, fun h => ?_, fun _ => ⟨?_, fun _ => ?_⟩⟩
  · simp [reading] at h
  · simp [reading] at h
  · rfl
  · simp [reading, seenMarker]

/-! ## Witnesses: what meets each statement's hypotheses -/

theorem witness_cksumLaws_a (i : Nat) (h1 : 1 ≤ i) (h5 : i ≤ 5) :
    (⟨0x00, 1, 2, 4, 8, 16, 0x00, 0x00⟩ : Buf).get i = (⟨0xAA, 1, 2, 4, 8, 16, 0x55, 0x77⟩ : Buf).get i := by
  interval_cases i <;> rfl
theorem witness_cksumLaws_b (i : Fin 5) :
    (⟨0x00, 0x02, 0x01, 4, 8, 16, 0x00, 0x00⟩ : Buf).get (i.val + 1) =
      (⟨0x00, 0x01, 0x02, 4, 8, 16, 0x00, 0x00⟩ : Buf).get (((Equiv.swap (0 : Fin 5) 1) i).val + 1) := by
  fin_cases i <;> rfl
theorem witness_cksumLaws_c : (1 ≤ 1 ∧ 1 ≤ 5) ∧ (1 ≤ 5 ∧ 5 ≤ 5) ∧ (1 : Nat) ≠ 5 := by decide
theorem witness_cksumLaws_e :
    (⟨0, 2, 0, 0, 0, 0, 2, 0⟩ : Buf).b6 ^^^ (⟨0, 1, 0, 0, 0, 0, 1, 0⟩ : Buf).b6 =
      cksum ⟨0, 2, 0, 0, 0, 0, 2, 0⟩ ^^^ cksum ⟨0, 1, 0, 0, 0, 0, 1, 0⟩ := by decide
theorem witness_builtFrameLaws : buildFrame 1 2 3 4 = buildFrame 1 2 3 4 := rfl
theorem witness_sendStart : State.reset.busy = false := rfl
theorem witness_startWhileBusy : (polling 0).busy = true := rfl
theorem witness_flushWriteOk : answeredOk 0 (flushingWrite false) ∧ (flushingWrite false).ph = .sFlushW :=
  ⟨⟨rfl, rfl, rfl⟩, rfl⟩
theorem witness_writeOk_none : answeredOk 0 (writing 0 false) ∧ 0 ≤ 8 ∧ (writing 0 false).ph = .sWrite :=
  ⟨⟨rfl, rfl, rfl⟩, by decide, rfl⟩
theorem witness_writeOk_all : answeredOk 8 (writing 8 false) ∧ 8 ≤ 8 ∧ (writing 8 false).ph = .sWrite :=
  ⟨⟨rfl, rfl, rfl⟩, by decide, rfl⟩
theorem witness_sendTransportFailure_flush :
    answeredErr 0x51 (flushingWrite true) ∧ (flushingWrite true).opKind = .send ∧ (flushingWrite true).ph = .sFlushW :=
  ⟨⟨rfl, rfl, rfl⟩, rfl, rfl⟩
theorem witness_sendTransportFailure_write :
    answeredErr 0x52 (writing 0 true) ∧ (writing 0 true).opKind = .send ∧
      (∃ data, Instr.write 8 Buf.zero = .write 8 data) ∧ (writing 0 true).ph = .sWrite :=
  ⟨⟨rfl, rfl, rfl⟩, rfl, ⟨_, rfl⟩, rfl⟩
theorem witness_sendSteps_flush :
    Inv (flushingWrite false) ∧ (flushingWrite false).ph = .sFlushW ∧ pending (flushingWrite false) ≠ none ∧
      ∃ t, step (flushingWrite false) = .next t :=
  ⟨flushingWrite_inv false, rfl, by decide, _, rfl⟩
theorem witness_sendSteps_write :
    Inv (writing 8 false) ∧ (writing 8 false).ph = .sWrite ∧ pending (writing 8 false) ≠ none ∧
      ∃ t, step (writing 8 false) = .next t :=
  ⟨writing_inv 8 false, rfl, by decide, _, rfl⟩
theorem witness_rdackStart : State.reset.busy = false ∧ (1 : Millis) ≠ 0 := by decide
theorem witness_pollBelow_hunting :
    answeredOk 6 (polling 6) ∧ (polling 6).ph = .rAvail ∧ 6 < (if (polling 6).rs = .hunting then 7 else 1) :=
  ⟨⟨rfl, rfl, rfl⟩, rfl, by decide⟩
theorem witness_pollBelow_accumulating :
    answeredOk 0 { polling 0 with rs := .accumulating } ∧ ({ polling 0 with rs := .accumulating } : State).ph = .rAvail ∧
      0 < (if ({ polling 0 with rs := .accumulating } : State).rs = .hunting then 7 else 1) :=
  ⟨⟨rfl, rfl, rfl⟩, rfl, by decide⟩
theorem witness_pollAt_hunting :
    answeredOk 7 (polling 7) ∧ (polling 7).ph = .rAvail ∧ (if (polling 7).rs = .hunting then 7 else 1) ≤ 7 :=
  ⟨⟨rfl, rfl, rfl⟩, rfl, by decide⟩
theorem witness_pollAt_accumulating :
    answeredOk 1 { polling 1 with rs := .accumulating } ∧ ({ polling 1 with rs := .accumulating } : State).ph = .rAvail ∧
      (if ({ polling 1 with rs := .accumulating } : State).rs = .hunting then 7 else 1) ≤ 1 :=
  ⟨⟨rfl, rfl, rfl⟩, rfl, by decide⟩
theorem witness_delay_more :
    (delaying 200 1).dly.done = true ∧ (delaying 200 1).ph = .rDelay ∧ (delaying 200 1).budget ≠ 0 := by decide
theorem witness_delay_exhausted :
    (delaying 100 0).dly.done = true ∧ (delaying 100 0).ph = .rDelay ∧ (delaying 100 0).budget = 0 := by decide
theorem witness_zeroByteRead : answeredOk 0 (reading message 0) ∧ (reading message 0).ph = .rRead :=
  ⟨⟨rfl, rfl, rfl⟩, rfl⟩
theorem witness_shortChunk_one :
    answeredOk 1 (reading message 1) ∧ 1 ≤ 1 ∧ 1 ≤ 8 ∧ (reading message 1).ph = .rRead ∧
      (scanBytes ((reading message 1).trsp.rdata.toList.take 1) (reading message 1)).accLen < 7 :=
  ⟨⟨rfl, rfl, rfl⟩, by decide, by decide, rfl, by decide⟩
theorem witness_shortChunk_eight :
    answeredOk 8 (reading Buf.zero 8) ∧ 1 ≤ 8 ∧ 8 ≤ 8 ∧ (reading Buf.zero 8).ph = .rRead ∧
      (scanBytes ((reading Buf.zero 8).trsp.rdata.toList.take 8) (reading Buf.zero 8)).accLen < 7 :=
  ⟨⟨rfl, rfl, rfl⟩, by decide, by decide, rfl, by decide⟩
/-- The state after the scan of a message's first seven bytes. -/
def scanned (data : Buf) (n : Nat) (s : State) : State := scanBytes (data.toList.take n) s
theorem witness_goodMessage :
    answeredOk 7 (reading message 7) ∧ 1 ≤ 7 ∧ 7 ≤ 8 ∧ (reading message 7).ph = .rRead ∧
      7 ≤ (scanned message 7 (reading message 7)).accLen ∧
      (scanned message 7 (reading message 7)).acc.b6 =
        cksum (verdictSource 7 (reading message 7) (scanned message 7 (reading message 7))) :=
  ⟨⟨rfl, rfl, rfl⟩, by decide, by decide, rfl, by decide, by decide⟩
/-- V-R5's message. -/
def badMessage : Buf := ⟨0xF5, 0x10, 3, 0, 0, 0, 0x12, 0⟩
theorem witness_badMessage :
    answeredOk 8 (reading badMessage 8) ∧ 1 ≤ 8 ∧ 8 ≤ 8 ∧ (reading badMessage 8).ph = .rRead ∧
      7 ≤ (scanned badMessage 8 (reading badMessage 8)).accLen ∧
      (scanned badMessage 8 (reading badMessage 8)).acc.b6 ≠
        cksum (verdictSource 8 (reading badMessage 8) (scanned badMessage 8 (reading badMessage 8))) :=
  ⟨⟨rfl, rfl, rfl⟩, by decide, by decide, rfl, by decide, by decide⟩
/-- The strap at LAST_CHUNK. -/
def lastChunk (data : Buf) (n : Count) : State := { reading data n with ckSource := .lastChunk }
theorem witness_goodMessage_lastChunk :
    answeredOk 7 (lastChunk message 7) ∧ 1 ≤ 7 ∧ 7 ≤ 8 ∧ (lastChunk message 7).ph = .rRead ∧
      7 ≤ (scanned message 7 (lastChunk message 7)).accLen ∧
      (scanned message 7 (lastChunk message 7)).acc.b6 =
        cksum (verdictSource 7 (lastChunk message 7) (scanned message 7 (lastChunk message 7))) :=
  ⟨⟨rfl, rfl, rfl⟩, by decide, by decide, rfl, by decide, by decide⟩
/-- V-R9. -/
def shifted : Buf := ⟨0xAA, 0xF5, 0x10, 3, 0, 0, 0, 0x13⟩
theorem witness_badMessage_lastChunk :
    answeredOk 8 (lastChunk shifted 8) ∧ 1 ≤ 8 ∧ 8 ≤ 8 ∧ (lastChunk shifted 8).ph = .rRead ∧
      7 ≤ (scanned shifted 8 (lastChunk shifted 8)).accLen ∧
      (scanned shifted 8 (lastChunk shifted 8)).acc.b6 ≠
        cksum (verdictSource 8 (lastChunk shifted 8) (scanned shifted 8 (lastChunk shifted 8))) :=
  ⟨⟨rfl, rfl, rfl⟩, by decide, by decide, rfl, by decide, by decide⟩
theorem witness_lastChunkCases_a :
    (lastChunk message 7).rs = .hunting ∧ (lastChunk message 7).accLen = 0 ∧ (lastChunk message 7).scr = Buf.zero ∧
      1 ≤ 7 ∧ 7 ≤ 8 ∧ 7 ≤ (scanChunk (storeChunk 7 message (lastChunk message 7))).accLen := by decide
theorem witness_lastChunkCases_b :
    (lastChunk shifted 8).rs = .hunting ∧ (lastChunk shifted 8).accLen = 0 ∧ (lastChunk shifted 8).scr = Buf.zero ∧
      1 ≤ 8 ∧ 8 ≤ 8 ∧ 7 ≤ (scanChunk (storeChunk 8 shifted (lastChunk shifted 8))).accLen := by decide
/-- A waiting state whose answer is an error. -/
def withErr (s : State) : State := { s with trsp := { s.trsp with err := true, errval := 0xDEAD } }
theorem witness_readerFailure_poll :
    answeredErr 0xDEAD (withErr (polling 8)) ∧ (withErr (polling 8)).opKind = .rdack ∧
      (withErr (polling 8)).ph = .rAvail :=
  ⟨⟨rfl, rfl, rfl⟩, rfl, rfl⟩
theorem witness_readerFailure_read :
    answeredErr 0xDEAD (withErr (reading message 8)) ∧ (withErr (reading message 8)).opKind = .rdack ∧
      (∃ timeout, Instr.read 8 1000 = .read 8 timeout) ∧ (withErr (reading message 8)).ph = .rRead :=
  ⟨⟨rfl, rfl, rfl⟩, rfl, ⟨_, rfl⟩, rfl⟩
theorem witness_flushReadOk :
    answeredOk 0 (flushing false) ∧ (flushing false).ph = .rFlushR ∧ (flushing false).opKind = .rdack :=
  ⟨⟨rfl, rfl, rfl⟩, rfl, rfl⟩
theorem witness_flushReadErr :
    answeredErr 0xC0DE (flushing true) ∧ (flushing true).ph = .rFlushR ∧ (flushing true).opKind = .rdack :=
  ⟨⟨rfl, rfl, rfl⟩, rfl, rfl⟩
theorem witness_countAboveEight : answeredOk 9 (reading message 9) ∧ 8 < 9 := ⟨⟨rfl, rfl, rfl⟩, by decide⟩
theorem witness_unanswered : State.reset.trsp.rsp = false ∧ State.reset.dly.done = false := by decide
theorem witness_nothingWaits :
    (reading message 8).ph.outstanding ≠ some .remainingRead ∧ (polling 8).ph.outstanding ≠ some .read ∧
      (∃ t, exec .remainingRead (reading message 8) = .next t) ∧ ∃ t, exec (.read 8 0) (polling 8) = .next t :=
  ⟨by decide, by decide, ⟨_, rfl⟩, ⟨_, rfl⟩⟩
theorem witness_huntDiscard : hunting.rs = .hunting ∧ (0xF4 : Byte) ≠ 0xF5 := by decide
theorem witness_huntSync : hunting.rs = .hunting ∧ hunting.accLen = 0 := by decide
theorem witness_accAppend_one : (accumulating 1).rs = .accumulating ∧ (accumulating 1).accLen < 8 := by decide
theorem witness_accAppend_seven : (accumulating 7).rs = .accumulating ∧ (accumulating 7).accLen < 8 := by decide
theorem witness_surplusDrop : (accumulating 8).accLen = 8 := rfl
theorem witness_scanPerforms :
    (hunting.rs = .hunting ∧ hunting.accLen ≤ 8) ∧ ((accumulating 7).rs = .accumulating ∧ (accumulating 7).accLen ≤ 8) ∧
      ((accumulating 8).rs = .accumulating ∧ (accumulating 8).accLen ≤ 8) := by decide
theorem witness_scanCollects :
    hunting.rs = .hunting ∧ hunting.accLen = 0 ∧ fromMarker [0x00, 0xF4] = [] ∧
      fromMarker [0x00, 0xF5, 0x10] = [0xF5, 0x10] := by decide
theorem witness_verdict :
    hunting.ckSource = .accumulator ∧
      7 ≤ (fromMarker [[0x00, 0xF5, 0x10], [3, 0, 0, 0, 0x13, 0]].flatten).length ∧
      (fromMarker [[0x00, 0xF5, 0x10], [3, 0, 0, 0, 0x13, 0]].flatten).take 7 =
        (fromMarker [[0xF5, 0x10, 3, 0, 0, 0, 0x13]].flatten).take 7 := by decide
theorem witness_scanNotApplied :
    (accumulating 1).rs ≠ .hunting ∧ hunting.rs ≠ .accumulating ∧ 8 ≤ (accumulating 8).accLen ∧
      (accumulating 8).accLen = 8 ∧ (accumulating 7).accLen ≠ 8 ∧ hunting.rs = .hunting ∧ (0xF5 : Byte) = params.marker := by
  decide
theorem witness_stepRuns_any :
    pending (reading message 8) = some (.transport { req := true, op := 3, len := 8, timeout := 1000 }) ∧
      decode (.transport { req := true, op := 3, len := 8, timeout := 1000 }) = .ok (.read 8 1000) := by decide
theorem witness_stepRuns_transport :
    (reading message 8).direct = none ∧ (reading message 8).treq.req = true ∧ (reading message 8).trsp.rsp = true ∧
      decode (.transport (reading message 8).treq) = .ok (.read 8 1000) := by decide
theorem witness_stepRuns_delay :
    (delaying 1000 900).direct = none ∧ (delaying 1000 900).treq.req = false ∧ (delaying 1000 900).dly.req = true ∧
      (delaying 1000 900).dly.done = true := by decide
/-- The host starts an operation. -/
def starting (op : BitVec 2) : State := { State.reset with host := { start := true, op := op } }
theorem witness_stepRuns_host :
    (starting 2).direct = none ∧ (starting 2).treq.req = false ∧ (starting 2).dly.req = false ∧
      (starting 2).host.start = true ∧ (starting 2).busy = false ∧ decode (.host (starting 2).host) = .ok (.rdack 0) := by
  decide
theorem witness_nothingStarts :
    (starting 0).direct = none ∧ (starting 0).treq.req = false ∧ (starting 0).dly.req = false ∧
      (starting 0).ph = .idle ∧ (starting 0).env = [] ∧ (starting 0).host.op = 0 ∧ (starting 3).host.op = 3 ∧
      State.reset.host.start = false := by decide
theorem witness_resetEdge :
    pending { reading message 8 with trsp := {}, env := [.rst] } = none ∧
      ({ reading message 8 with trsp := {}, env := [.rst] } : State).ph ≠ .rHead := by decide
/-- A step of every statement over all steps of an RDACK: the bounds, the invariants, the transitions. -/
theorem witness_rdackSteps :
    Inv (reading message 8) ∧ TraceOk (reading message 8) ∧ (reading message 8).opKind = .rdack ∧
      (reading message 8).busy = true ∧ (reading message 8).ph.inLoop = true ∧ pending (reading message 8) ≠ none ∧
      (reading message 8).err ≠ .ackMissingData ∧ (reading message 8).perr ≠ .ackMissingData ∧
      ∃ t, step (reading message 8) = .next t :=
  ⟨reading_inv _ _, reading_trace _ _, rfl, rfl, rfl, by decide, by decide, by decide, _, rfl⟩
theorem witness_rdackSteps_flush :
    Inv (flushing false) ∧ (flushing false).ph = .rFlushR ∧ pending (flushing false) ≠ none ∧
      ∃ t, step (flushing false) = .next t :=
  ⟨flushing_inv false, rfl, by decide, _, rfl⟩
/-- RDACK 100 ended by an exhausted budget (V-R14). -/
def exhausted : State :=
  { State.reset with
    done := true, opKind := .rdack, rs := .failed, err := .ackTimeout, perr := .ackTimeout
    trace := [.flushRead, .delay 100, .remainingRead 0, .rdack 100] }
theorem exhausted_inv : Inv exhausted := by
  constructor <;> simp [exhausted, State.reset, Phase.inLoop, Phase.outstanding]
theorem exhausted_trace : TraceOk exhausted := by
  refine ⟨fun h => ?_, fun h => ?_, fun _ => ⟨rfl, fun h => ?_⟩⟩
  · simp [exhausted] at h
  · simp [exhausted] at h
  · simp [exhausted, State.reset, Phase.inLoop] at h
theorem witness_exhausted :
    Inv exhausted ∧ TraceOk exhausted ∧ exhausted.opKind = .rdack ∧ exhausted.ph = .idle ∧ exhausted.err = .ackTimeout ∧
      exhausted.trace = .flushRead :: [.delay 100, .remainingRead 0, .rdack 100] ∧
      ∀ len timeout data more,
        [TraceLine.delay 100, .remainingRead 0, .rdack 100] ≠ .read len timeout data :: more :=
  ⟨exhausted_inv, exhausted_trace, rfl, rfl, rfl, rfl, fun _ _ _ _ h => by cases h⟩
theorem witness_terminate_start : State.reset.busy = false ∧ ∃ t, exec (.rdack 101) State.reset = .next t :=
  ⟨rfl, _, rfl⟩
theorem witness_blockSees : ∃ t, exec (.read 8 1000) (reading message 8) = .next t := ⟨_, rfl⟩
/-- The same READ as it was issued, two bytes buffered by then. -/
def readIssued : State := { reading message 8 with trsp := {}, rxq := [0x00, 0xF5] }
theorem witness_plain :
    (reading message 8).rxq.length ≤ 65535 ∧ (reading message 8).treq.op = TOp.read.code ∧
      (reading message 8).treq.len = 8 ∧ readIssued.treq = (reading message 8).treq ∧
      1 ≤ readIssued.rxq.length ∧ readIssued.rxq.length ≤ (reading message 8).rxq.length ∧
      decode (.transport (reading message 8).treq) = .ok (.read 8 1000) := by decide
/-- R162's first row: a start from VALIDATED, and the marker and the end of the scan in one step. -/
theorem witness_readerTransitions :
    Inv { starting 2 with rs := .validated, ack := some ⟨0, 0, 0⟩, accLen := 7, acc := ⟨0xF5, 0, 0, 0, 0, 0, 0, 0⟩ } ∧
      after (step { starting 2 with rs := .validated, ack := some ⟨0, 0, 0⟩, accLen := 7, acc := ⟨0xF5, 0, 0, 0, 0, 0, 0, 0⟩ })
        (fun t => t.rs = .hunting) = true ∧
      after (step (reading message 8)) (fun t => t.rs = .validated) = true :=
  ⟨by constructor <;> simp [starting, State.reset, Phase.inLoop, Phase.outstanding], by decide, by decide⟩
/-- A poll answered with what is buffered. -/
def countedPoll : State := { polling 8 with rxq := message.toList }
theorem countedPoll_inv : Inv countedPoll := by
  constructor <;> simp [countedPoll, polling, State.reset, Phase.inLoop, Phase.outstanding, TOp.code]
theorem witness_zeroByte_issue :
    Inv countedPoll ∧ tCount countedPoll ∧ countedPoll.ph ≠ .rRead ∧
      ∃ t, step countedPoll = .next t ∧ t.ph = .rRead ∧ tNonblocking t (reading message 8) :=
  ⟨countedPoll_inv, fun _ => by decide, by decide, _, rfl, rfl, fun _ _ _ => by decide⟩
theorem readIssued_inv : Inv { readIssued with env := [.rx [0x10]] } := by
  constructor <;> simp [readIssued, reading, State.reset, Phase.inLoop, Phase.outstanding, TOp.code, Buf.zero]
theorem witness_zeroByte_outstanding :
    Inv { readIssued with env := [.rx [0x10]] } ∧ readIssued.ph = .rRead ∧
      ∃ t, step { readIssued with env := [.rx [0x10]] } = .next t ∧ t.ph = .rRead :=
  ⟨readIssued_inv, rfl, _, rfl, rfl⟩
/-- T_NONBLOCKING allows a READ issued on an empty buffer to answer 0 bytes though a byte has arrived since. -/
theorem test_nonblocking_at_issue :
    tNonblocking { readIssued with rxq := [] } { readIssued with trsp := { rsp := true }, rxq := [0xF5] } :=
  fun _ h => absurd h (by decide)

end Sys2Proof.Tests
end

namespace Sys2Proof.Machine

/-! ## The moves of the block, said once

`BlockMove s t` lists everything a step can do in which the block itself runs, from a state that meets `Inv`: the two
starts, and for each phase what the block does with the answer it waits for. `step_moves` says that the list is complete;
the statements about all steps are case analyses on it. -/

/-- R148, R149: the state in which the scan of an answered READ ends. -/
def scannedChunk (s : State) : State :=
  withReader (scanBytes (s.trsp.rdata.first s.trsp.count.toNat) s).rs
    (scanBytes (s.trsp.rdata.first s.trsp.count.toNat) s).acc
    (scanBytes (s.trsp.rdata.first s.trsp.count.toNat) s).accLen
    (storeChunk s.trsp.count.toNat s.trsp.rdata (popRx s.trsp.count.toNat
      (record (.read 8 s.budget (s.trsp.rdata.first s.trsp.count.toNat)) (takeAnswer s))))

/-- One step in which the block runs (10_state.md R28): the answer it takes, and what it makes of it. -/
inductive BlockMove (s : State) : State → Prop where
  | sendStart (code p0 p1 p2 : Byte) (idle : s.busy = false) :
    BlockMove s (issue .sFlushW .flushWrite 0 0 Buf.zero
      (startFlags .send (.send code p0 p1 p2) (latchCommand code p0 p1 p2 s)))
  | rdackStart (timeout : Millis) (idle : s.busy = false) :
    BlockMove s (loopHead (initReader timeout (startFlags .rdack (.rdack timeout) s)))
  | flushWriteErr (ph : s.ph = .sFlushW) (rsp : s.trsp.rsp = true) (err : s.trsp.err = true) :
    BlockMove s (failTransport s.trsp.errval (loseTx (record (.failed .flushWrite s.trsp.errval) (takeAnswer s))))
  | flushWriteOk (ph : s.ph = .sFlushW) (rsp : s.trsp.rsp = true) (err : s.trsp.err = false) :
    BlockMove s (issue .sWrite .write 8 0 (buildFrame s.opCode s.opP0 s.opP1 s.opP2)
      { clearTx (record .flushWrite (takeAnswer s)) with txf := buildFrame s.opCode s.opP0 s.opP1 s.opP2 })
  | writeErr (ph : s.ph = .sWrite) (rsp : s.trsp.rsp = true) (err : s.trsp.err = true) :
    BlockMove s (failTransport s.trsp.errval (loseTx (record (.failed (.write s.txf) s.trsp.errval) (takeAnswer s))))
  | writeOk (ph : s.ph = .sWrite) (rsp : s.trsp.rsp = true) (err : s.trsp.err = false)
      (le : s.trsp.count.toNat ≤ 8) :
    BlockMove s (complete .none
      { pushTx (s.txf.first s.trsp.count.toNat) (record (.write s.txf s.trsp.count.toNat) (takeAnswer s)) with
        txCount := s.trsp.count.toNat })
  | pollErr (ph : s.ph = .rAvail) (rsp : s.trsp.rsp = true) (err : s.trsp.err = true) :
    BlockMove s (failTransport s.trsp.errval (record (.failed .remainingRead s.trsp.errval) (takeAnswer s)))
  | pollBelow (ph : s.ph = .rAvail) (rsp : s.trsp.rsp = true) (err : s.trsp.err = false)
      (lt : s.trsp.count.toNat < threshold s) :
    BlockMove s (consumeQuantum (record (.remainingRead s.trsp.count) (takeAnswer s)))
  | pollMet (ph : s.ph = .rAvail) (rsp : s.trsp.rsp = true) (err : s.trsp.err = false)
      (le : threshold s ≤ s.trsp.count.toNat) :
    BlockMove s (issueRead (record (.remainingRead s.trsp.count) (takeAnswer s)))
  | readErr (ph : s.ph = .rRead) (rsp : s.trsp.rsp = true) (err : s.trsp.err = true) :
    BlockMove s (failTransport s.trsp.errval
      (loseRx (record (.failed (.read 8 s.budget) s.trsp.errval) (takeAnswer s))))
  | readEmpty (ph : s.ph = .rRead) (rsp : s.trsp.rsp = true) (err : s.trsp.err = false)
      (zero : s.trsp.count.toNat = 0) :
    BlockMove s (failFlush .ackTimeout (popRx 0 (record (.read 8 s.budget []) (takeAnswer s))))
  | readChunk (ph : s.ph = .rRead) (rsp : s.trsp.rsp = true) (err : s.trsp.err = false)
      (pos : 1 ≤ s.trsp.count.toNat) (le : s.trsp.count.toNat ≤ 8) :
    BlockMove s (afterScan (scannedChunk s))
  | flushReadErr (ph : s.ph = .rFlushR) (rsp : s.trsp.rsp = true) (err : s.trsp.err = true) :
    BlockMove s (failTransport s.trsp.errval (loseRx (record (.failed .flushRead s.trsp.errval) (takeAnswer s))))
  | flushReadOk (ph : s.ph = .rFlushR) (rsp : s.trsp.rsp = true) (err : s.trsp.err = false) :
    BlockMove s (fail s.perr (clearRx (record .flushRead (takeAnswer s))))
  | delayDone (ph : s.ph = .rDelay) (done : s.dly.done = true) :
    BlockMove s (loopHead (record (.delay 100) (takeDelay s)))

section Moves
variable {s t : State}

theorem blockMove_of_flushWrite (hp : s.ph = .sFlushW) (hr : s.trsp.rsp = true) (h : execFlushWrite s = .next t) :
    BlockMove s t := by
  cases he : s.trsp.err
  · rw [execFlushWrite_ok hr he, if_pos hp] at h
    cases h; exact .flushWriteOk hp hr he
  · rw [execFlushWrite_err hr he, if_pos hp] at h
    cases h; exact .flushWriteErr hp hr he

theorem blockMove_of_write (hp : s.ph = .sWrite) (hr : s.trsp.rsp = true) (h : execWrite 8 s.txf s = .next t) :
    BlockMove s t := by
  cases he : s.trsp.err
  · cases hn : countInRange 8 s
    · rw [execWrite_outOfRange 8 s.txf hr he hn] at h; cases h
    · rw [execWrite_ok 8 s.txf hr he hn, if_pos hp] at h
      cases h; exact .writeOk hp hr he ((countInRange_eight s).1 hn)
  · rw [execWrite_err 8 s.txf hr he, if_pos hp] at h
    cases h; exact .writeErr hp hr he

theorem blockMove_of_remainingRead (hp : s.ph = .rAvail) (hr : s.trsp.rsp = true)
    (h : execRemainingRead s = .next t) : BlockMove s t := by
  cases he : s.trsp.err
  · rw [execRemainingRead_ok hr he, if_pos hp] at h
    by_cases hlt : s.trsp.count.toNat < threshold s
    · rw [if_pos hlt] at h
      cases h; exact .pollBelow hp hr he hlt
    · rw [if_neg hlt] at h
      cases h; exact .pollMet hp hr he (Nat.not_lt.1 hlt)
  · rw [execRemainingRead_err hr he, if_pos hp] at h
    cases h; exact .pollErr hp hr he

theorem blockMove_of_read (hp : s.ph = .rRead) (hr : s.trsp.rsp = true) (h : execRead 8 s.budget s = .next t) :
    BlockMove s t := by
  cases he : s.trsp.err
  · cases hn : countInRange 8 s
    · rw [execRead_outOfRange 8 s.budget hr he hn] at h; cases h
    · have h8 := (countInRange_eight s).1 hn
      by_cases h0 : s.trsp.count.toNat = 0
      · rw [execRead_ok 8 s.budget hr he hn, if_pos hp, h0] at h
        cases h; exact .readEmpty hp hr he h0
      · have h1 : 1 ≤ s.trsp.count.toNat := Nat.pos_of_ne_zero h0
        rw [execRead_chunk s.budget hr he hp h1 h8] at h
        cases h; exact .readChunk hp hr he h1 h8
  · rw [execRead_err 8 s.budget hr he, if_pos hp] at h
    cases h; exact .readErr hp hr he

theorem blockMove_of_flushRead (hp : s.ph = .rFlushR) (hr : s.trsp.rsp = true) (h : execFlushRead s = .next t) :
    BlockMove s t := by
  cases he : s.trsp.err
  · rw [execFlushRead_ok hr he, if_pos hp] at h
    cases h; exact .flushReadOk hp hr he
  · rw [execFlushRead_err hr he, if_pos hp] at h
    cases h; exact .flushReadErr hp hr he

/-- R28, R102: what the outstanding request of each phase decodes to. -/
theorem decode_outstanding {o : TOp} (hi : Inv s) (ho : s.ph.outstanding = some o) :
    decode (.transport s.treq) = .ok (match o with
      | .remainingRead => .remainingRead
      | .flushRead => .flushRead
      | .flushWrite => .flushWrite
      | .read => .read s.treq.len s.treq.timeout
      | .write => .write s.treq.len s.treq.wdata) := by
  have hop := hi.req_op o ho
  cases o <;> simp [decode, decodeTransport, hop, TOp.code]

theorem blockMove_of_transport {i : Instr} (hi : Inv s) (hq : s.treq.req = true) (hr : s.trsp.rsp = true)
    (hd : decode (.transport s.treq) = .ok i) (h : exec i s = .next t) : BlockMove s t := by
  obtain ⟨o, ho⟩ := Option.isSome_iff_exists.1 (hi.req_iff.1 hq)
  rw [decode_outstanding hi ho] at hd
  cases hp : s.ph <;> rw [hp] at ho <;> cases ho <;> cases hd
  case sFlushW => exact blockMove_of_flushWrite hp hr h
  case sWrite =>
    obtain ⟨hlen, hdata, -⟩ := hi.write_request hp
    rw [hlen, hdata] at h
    exact blockMove_of_write hp hr h
  case rAvail => exact blockMove_of_remainingRead hp hr h
  case rRead =>
    obtain ⟨hlen, htime⟩ := hi.read_request hp
    rw [hlen, htime] at h
    exact blockMove_of_read hp hr h
  case rFlushR => exact blockMove_of_flushRead hp hr h

theorem blockMove_of_delay (hi : Inv s) (hq : s.dly.req = true) (hd : s.dly.done = true)
    (h : exec (.delay s.dly.ms) s = .next t) : BlockMove s t := by
  have hp := hi.delay_iff.1 hq
  rw [hi.delay_ms] at h
  change execDelay 100 s = .next t at h
  rw [execDelay_done 100 hd, if_pos hp] at h
  cases h; exact .delayDone hp hd

/-- R39, R101: the host port names SEND or RDACK, or nothing starts. -/
theorem decodeHost_cases (x : HostIn) :
    decode (.host x) = .ok (.send x.code x.p0 x.p1 x.p2 x.timeout) ∨ decode (.host x) = .ok (.rdack x.timeout) ∨
      ∃ e, decode (.host x) = .error e := by
  simp only [decode, decodeHost]
  split_ifs <;> simp

theorem blockMove_of_host {i : Instr} (hb : s.busy = false) (hd : decode (.host s.host) = .ok i)
    (h : exec i s = .next t) : BlockMove s t := by
  obtain hk | hk | ⟨e, hk⟩ := decodeHost_cases s.host <;> rw [hk] at hd <;> cases hd
  · simp only [exec, execSend_start _ _ _ _ _ hb] at h
    cases h; exact .sendStart _ _ _ _ hb
  · simp only [exec, execRdack_start _ hb] at h
    cases h; exact .rdackStart _ hb

/-- Nothing was placed from inside, so running the request clears nothing (notes/assumptions/7.md). -/
theorem directNone_eq (h : s.direct = none) : { s with direct := none } = s := by
  rw [← h]

/-- What is presented inside an operation is its own answer or delay: it decodes. -/
theorem busy_false_of_undecoded {r : Request} {e : DecodeError} (hi : Inv s) (hp : pending s = some r)
    (hd : decode r = .error e) : s.busy = false := by
  obtain ⟨rfl, hq, -⟩ | ⟨rfl, -, -⟩ | ⟨-, -, hb⟩ := pending_cases hi.no_direct hp
  · obtain ⟨o, ho⟩ := Option.isSome_iff_exists.1 (hi.req_iff.1 hq)
    rw [decode_outstanding hi ho] at hd; cases hd
  · cases hd
  · exact hb

/-- Everything a step can do from a state that meets `Inv`: the block runs, or another agent takes its turn. -/
theorem step_moves (hi : Inv s) (h : step s = .next t) :
    BlockMove s t ∨ t = moveEnv s ∧ (pending s = none ∨ s.busy = false) := by
  obtain ⟨r, i, hp, hd, he⟩ | ⟨rfl, hn⟩ := step_cases h
  · left
    rw [directNone_eq hi.no_direct] at he
    obtain ⟨rfl, hq, hr⟩ | ⟨rfl, hq, hdone⟩ | ⟨rfl, -, hb⟩ := pending_cases hi.no_direct hp
    · exact blockMove_of_transport hi hq hr hd he
    · cases hd; exact blockMove_of_delay hi hq hdone he
    · exact blockMove_of_host hb hd he
  · refine .inr ⟨if_neg hi.not_head, hn.imp_right ?_⟩
    rintro ⟨r, e, hp, hd, -⟩
    exact busy_false_of_undecoded hi hp hd

/-- Inside an operation a step with something presented is the block's. -/
theorem step_blockMove (hi : Inv s) (hb : s.busy = true) (hp : pending s ≠ none) (h : step s = .next t) :
    BlockMove s t := by
  obtain hm | ⟨-, hn | hn⟩ := step_moves hi h
  · exact hm
  · exact absurd hn hp
  · rw [hb] at hn; cases hn

/-- R5, R230: another agent's turn is a reset edge, or leaves every element of the block but the port flags. -/
theorem moveEnv_reset_or_same (s : State) :
    (∃ rest, moveEnv s = resetEdge { s with env := rest }) ∨
      (moveEnv s).ph = s.ph ∧ sameReader s (moveEnv s) ∧ sameSender s (moveEnv s) ∧ sameStatus s (moveEnv s) := by
  obtain ⟨-, h⟩ | ⟨e, rest, -, h⟩ := moveEnv_cases s <;> rw [h]
  · simp [sameReader, sameSender, sameStatus]
  · cases e
    case rst => exact .inl ⟨rest, rfl⟩
    case host | rx | sent => simp [applyEnv, sameReader, sameSender, sameStatus]
    case answer | answerPlain | delayDone =>
      simp only [applyEnv]
      split <;> simp [sameReader, sameSender, sameStatus]

end Moves

/-! ## Within a step of an operation

`Running s` is what holds between the taking of an answer and the next request: the ports are closed, and of `Inv` the
part that does not speak of the phase. The operations that end a step (`issue`, `consumeQuantum`, `complete`) lead from
it to `Inv`. -/

/-- R159, R156: what `Inv` says of a valid acknowledgement `a`. -/
def AckDecodes (s : State) (a : AckFrame) : Prop :=
  a = ⟨s.acc.b1, s.acc.b2, s.acc.b3⟩ ∧ 7 ≤ s.accLen ∧
    (s.ckSource = .accumulator → s.acc.b6 = s.acc.b1 ^^^ s.acc.b2 ^^^ s.acc.b3 ^^^ s.acc.b4 ^^^ s.acc.b5)

/-- What holds inside an operation while nothing is outstanding. -/
structure Running (s : State) : Prop where
  accLen_le : s.accLen ≤ 8
  scrN_le : s.scrN ≤ 8
  txCount_le : s.txCount ≤ 8
  hunting_empty : s.rs = .hunting → s.accLen = 0
  accumulating_nonempty : s.rs = .accumulating → 1 ≤ s.accLen
  marker_first : 1 ≤ s.accLen → s.acc.b0 = 0xF5
  ack_iff_validated : s.ack.isSome = true ↔ s.rs = .validated
  ack_decoded : ∀ a, s.ack = some a → AckDecodes s a
  busy : s.busy = true
  not_done : s.done = false
  no_err : s.err = .none
  perr_kind : s.perr = .none ∨ s.perr = .ackTimeout ∨ s.perr = .ackChecksumMismatch
  /-- R27, R101: an RDACK scans, a SEND does not. -/
  kind : s.opKind = .rdack ∧ (s.rs = .hunting ∨ s.rs = .accumulating) ∨
    s.opKind = .send ∧ ¬ (s.rs = .hunting ∨ s.rs = .accumulating)
  no_req : s.treq.req = false
  no_rsp : s.trsp.rsp = false
  no_delay : s.dly.req = false
  no_delayDone : s.dly.done = false
  delay_ms : s.dly.ms = 100
  no_direct : s.direct = none

section Ends
variable {s : State}

/-- A request is presented: the phase must be one that waits for it, and what `Inv` says of that phase must hold. -/
theorem Running.issue (h : Running s) {ph : Phase} {op : TOp} {len : BitVec 4} {time : Millis} {data : Buf}
    (ho : ph.outstanding = some op)
    (hk : s.opKind = if ph = .sFlushW ∨ ph = .sWrite then .send else .rdack)
    (hf : ph = .rFlushR → s.perr ≠ .none)
    (hl : ph.inLoop = true → s.accLen < 7 ∧ s.scr = Buf.zero ∧ s.scrN = 0)
    (hb : ph = .rAvail ∨ ph = .rRead → s.budget ≠ 0)
    (hr : ph = .rRead → len = 8 ∧ time = s.budget)
    (hw : ph = .sWrite → len = 8 ∧ data = s.txf ∧ s.txf = buildFrame s.opCode s.opP0 s.opP1 s.opP2) :
    Inv (issue ph op len time data s) :=
  have hkind := h.kind
  have hph : ph ≠ .idle ∧ ph ≠ .rHead ∧ ph ≠ .rDelay := by
    refine ⟨?_, ?_, ?_⟩ <;> rintro rfl <;> cases ho
  { h with
    busy_iff := by simp [h.busy, hph]
    not_busy_and_done := by simp [h.not_done]
    idle_done := fun e => absurd e hph.1
    busy_no_err := fun _ => h.no_err
    not_head := hph.2.1
    send_phase := fun e => hk.trans (if_pos e)
    reader_phase := by cases ph <;> simp_all [Phase.inLoop]
    scanning_phase := by cases ph <;> simp_all [Phase.inLoop]
    err_reachable := by simp [h.no_err]
    flush_pending_kind := hf
    loop_short := hl
    budget_pos := hb
    req_iff := by simp [ho]
    req_op := by simp [ho]
    read_request := hr
    write_request := hw
    delay_iff := by simp [h.no_delay, hph]
    rsp_answers := by simp
    done_answers := by simp [h.no_delayDone] }

/-- R146, R155: the delay is requested. -/
theorem Running.consumeQuantum (h : Running s) (hk : s.opKind = .rdack)
    (hl : s.accLen < 7 ∧ s.scr = Buf.zero ∧ s.scrN = 0) : Inv (consumeQuantum s) :=
  have hkind := h.kind
  { h with
    busy_iff := by simp [h.busy]
    not_busy_and_done := by simp [h.not_done]
    idle_done := by simp
    busy_no_err := fun _ => h.no_err
    not_head := by simp
    send_phase := by simp
    reader_phase := by simp_all
    scanning_phase := by simp [Phase.inLoop]
    err_reachable := by simp [h.no_err]
    flush_pending_kind := by simp
    loop_short := fun _ => hl
    budget_pos := by simp
    req_iff := by simp [h.no_req, Phase.outstanding]
    req_op := by simp [Phase.outstanding]
    read_request := by simp
    write_request := by simp
    delay_iff := by simp
    delay_ms := rfl
    rsp_answers := by simp [h.no_rsp]
    done_answers := by simp }

/-- R37: the operation ends, its result in `rs` and `ack`: neither scanning state, and R32 between the two. -/
theorem Running.complete (h : Running s) {kind : ErrKind} {rs : ReaderState} {ack : Option AckFrame}
    (hk : kind ≠ .ackMissingData) (hr : ¬ (rs = .hunting ∨ rs = .accumulating))
    (ha : ack.isSome = true ↔ rs = .validated) (hd : ∀ a, ack = some a → AckDecodes s a) :
    Inv (complete kind { s with rs := rs, ack := ack }) :=
  { h with
    hunting_empty := fun e => absurd (.inl e) hr
    accumulating_nonempty := fun e => absurd (.inr e) hr
    ack_iff_validated := ha
    ack_decoded := hd
    busy_iff := by simp
    not_busy_and_done := by simp
    idle_done := fun _ _ => rfl
    busy_no_err := by simp
    not_head := by simp
    send_phase := by simp
    reader_phase := by simp [Phase.inLoop]
    scanning_phase := fun e => absurd e hr
    err_reachable := hk
    flush_pending_kind := by simp
    loop_short := by simp [Phase.inLoop]
    budget_pos := by simp
    req_iff := by simp [h.no_req, Phase.outstanding]
    req_op := by simp [Phase.outstanding]
    read_request := by simp
    write_request := by simp
    delay_iff := by simp [h.no_delay]
    rsp_answers := by simp [h.no_rsp]
    done_answers := by simp [h.no_delayDone] }

end Ends

section Begin
variable {s : State}

/-- R31, R38: with no operation in progress the phase is PH_IDLE and no port is in use. -/
theorem Inv.idle_ports (hi : Inv s) (hb : s.busy = false) :
    s.ph = .idle ∧ s.treq.req = false ∧ s.trsp.rsp = false ∧ s.dly.req = false ∧ s.dly.done = false := by
  have hp : s.ph = .idle := by
    by_contra hn
    rw [hi.busy_iff.2 hn] at hb; cases hb
  have hq : s.treq.req = false := by
    rw [← Bool.not_eq_true, hi.req_iff, hp]; simp [Phase.outstanding]
  have hd : s.dly.req = false := by
    rw [← Bool.not_eq_true, hi.delay_iff, hp]; simp
  exact ⟨hp, hq, eq_false_of_ne_true fun h => by simp [hi.rsp_answers h] at hq, hd,
    eq_false_of_ne_true fun h => by simp [hi.done_answers h] at hd⟩

theorem Inv.send_kind (hi : Inv s) (hp : s.ph = .sFlushW ∨ s.ph = .sWrite) :
    s.opKind = .send ∧ ¬ (s.rs = .hunting ∨ s.rs = .accumulating) := by
  refine ⟨hi.send_phase hp, fun hs => ?_⟩
  have hr := hi.scanning_phase hs
  obtain hp | hp := hp <;> simp [hp, Phase.inLoop] at hr

/-- R28: every phase but PH_IDLE belongs to a SEND or to an RDACK. -/
theorem Inv.kind_of_busy (hi : Inv s) (hb : s.busy = true) :
    s.opKind = .rdack ∧ (s.rs = .hunting ∨ s.rs = .accumulating) ∨
      s.opKind = .send ∧ ¬ (s.rs = .hunting ∨ s.rs = .accumulating) := by
  have hn := hi.busy_iff.1 hb
  cases hp : s.ph
  case idle => exact absurd hp hn
  case rHead => exact absurd hp hi.not_head
  case sFlushW => exact .inr (hi.send_kind (.inl hp))
  case sWrite => exact .inr (hi.send_kind (.inr hp))
  case rFlushR => exact .inl (hi.reader_phase (.inr hp))
  all_goals exact .inl (hi.reader_phase (.inl (by rw [hp]; rfl)))

/-- R41: an answer has been taken. -/
theorem Inv.running_takeAnswer (hi : Inv s) (hr : s.trsp.rsp = true) : Running (takeAnswer s) :=
  have hq := hi.rsp_answers hr
  have hb : s.busy = true := hi.busy_iff.2 fun hp => by simp [hi.req_iff, hp, Phase.outstanding] at hq
  have hd : s.dly.req = false := by
    rw [← Bool.not_eq_true, hi.delay_iff]
    intro hp
    simp [hi.req_iff, hp, Phase.outstanding] at hq
  { hi with
    busy := hb
    not_done := eq_false_of_ne_true fun h => hi.not_busy_and_done ⟨hb, h⟩
    no_err := hi.busy_no_err hb
    kind := hi.kind_of_busy hb
    no_req := rfl
    no_rsp := rfl
    no_delay := hd
    no_delayDone := eq_false_of_ne_true fun h => by simp [hi.done_answers h] at hd }

/-- R42: a completed delay has been taken. -/
theorem Inv.running_takeDelay (hi : Inv s) (hp : s.ph = .rDelay) : Running (takeDelay s) :=
  have hb : s.busy = true := hi.busy_iff.2 (by simp [hp])
  have hq : s.treq.req = false := by
    rw [← Bool.not_eq_true, hi.req_iff, hp]; simp [Phase.outstanding]
  { hi with
    busy := hb
    not_done := eq_false_of_ne_true fun h => hi.not_busy_and_done ⟨hb, h⟩
    no_err := hi.busy_no_err hb
    kind := hi.kind_of_busy hb
    no_req := hq
    no_rsp := eq_false_of_ne_true fun h => by simp [hi.rsp_answers h] at hq
    no_delay := rfl
    no_delayDone := rfl }

/-- R36, R40: a SEND has raised its flags. -/
theorem Inv.running_sendStart (hi : Inv s) (hb : s.busy = false) (code p0 p1 p2 : Byte) :
    Running (startFlags .send (.send code p0 p1 p2) (latchCommand code p0 p1 p2 s)) := by
  obtain ⟨hp, hq, hr, hd, hdd⟩ := hi.idle_ports hb
  exact
    { hi with
      busy := rfl
      not_done := rfl
      no_err := rfl
      kind := .inr ⟨rfl, fun hs => by have := hi.scanning_phase hs; simp [hp, Phase.inLoop] at this⟩
      no_req := hq
      no_rsp := hr
      no_delay := hd
      no_delayDone := hdd }

/-- R36, R142: an RDACK has raised its flags and initialised the reader. -/
theorem Inv.running_rdackStart (hi : Inv s) (hb : s.busy = false) (timeout : Millis) :
    Running (initReader timeout (startFlags .rdack (.rdack timeout) s)) := by
  obtain ⟨-, hq, hr, hd, hdd⟩ := hi.idle_ports hb
  exact
    { hi with
      accLen_le := Nat.zero_le 8
      scrN_le := Nat.zero_le 8
      hunting_empty := fun _ => rfl
      accumulating_nonempty := by simp
      marker_first := by simp
      ack_iff_validated := by simp
      ack_decoded := by simp
      busy := rfl
      not_done := rfl
      no_err := rfl
      perr_kind := .inl rfl
      kind := .inl ⟨rfl, .inl rfl⟩
      no_req := hq
      no_rsp := hr
      no_delay := hd
      no_delayDone := hdd }

end Begin

/-- R153: a byte written past index 0 leaves the first byte. -/
theorem set_b0_of_pos {f : Buf} {i : Nat} {v : Byte} (h : 1 ≤ i) : (f.set i v).b0 = f.b0 := by
  unfold Buf.set
  split
  · omega
  all_goals rfl

/-! ## What the block does on the way -/

section Within
variable {s : State}

theorem Running.record (h : Running s) (l : TraceLine) : Running (record l s) := { h with }
theorem Running.popRx (h : Running s) (n : Nat) : Running (popRx n s) := { h with }
theorem Running.clearRx (h : Running s) : Running (clearRx s) := { h with }
theorem Running.clearTx (h : Running s) : Running (clearTx s) := { h with }
theorem Running.loseRx (h : Running s) : Running (loseRx s) := { h with }
theorem Running.loseTx (h : Running s) : Running (loseTx s) := { h with }
theorem Running.pushTx (h : Running s) (bytes : List Byte) : Running (pushTx bytes s) := { h with }
theorem Running.setTxf (h : Running s) (f : Buf) : Running { s with txf := f } := { h with }
theorem Running.setTxCount (h : Running s) {n : Nat} (hn : n ≤ 8) : Running { s with txCount := n } :=
  { h with txCount_le := hn }
theorem Running.setTerr (h : Running s) (e : TErr) : Running { s with terr := e } := { h with }
theorem Running.setPerr (h : Running s) {k : ErrKind} (hk : k = .none ∨ k = .ackTimeout ∨ k = .ackChecksumMismatch) :
    Running { s with perr := k } :=
  { h with perr_kind := hk }
theorem Running.resetScratch (h : Running s) : Running (resetScratch s) := { h with scrN_le := Nat.zero_le 8 }
theorem Running.storeChunk (h : Running s) {n : Nat} (data : Buf) (hn : n ≤ 8) : Running (storeChunk n data s) :=
  { h with scrN_le := hn }

/-- R27: an RDACK scans as long as it runs, and then no acknowledgement is valid. -/
theorem Running.reader (h : Running s) (hk : s.opKind = .rdack) :
    (s.rs = .hunting ∨ s.rs = .accumulating) ∧ s.ack = none := by
  have hs : s.rs = .hunting ∨ s.rs = .accumulating := by
    obtain ⟨-, hs⟩ | ⟨hsend, -⟩ := h.kind
    · exact hs
    · rw [hk] at hsend; cases hsend
  refine ⟨hs, ?_⟩
  rw [← Option.not_isSome_iff_eq_none, h.ack_iff_validated]
  obtain hs | hs := hs <;> simp [hs]

/-- R150 to R154: what the scan of a byte keeps of the reader. -/
theorem Running.scanByte (h : Running s) (hk : s.opKind = .rdack) (b : Byte) : Running (scanByte s b) := by
  obtain ⟨-, e⟩ | ⟨-, -, -, e⟩ | ⟨-, -, -, e⟩ | ⟨h8, hh, e⟩ := scanByte_cases s b <;> rw [e]
  · exact h
  · exact h
  · exact
      { h with
        accLen_le := by simp
        hunting_empty := by simp
        accumulating_nonempty := by simp
        marker_first := fun _ => rfl
        ack_iff_validated := by simp [(h.reader hk).2]
        ack_decoded := by simp [(h.reader hk).2]
        kind := .inl ⟨hk, .inr rfl⟩ }
  · have ha : s.rs = .accumulating := (h.reader hk).1.resolve_left hh
    have h1 : 1 ≤ s.accLen := h.accumulating_nonempty ha
    have hle := h.accLen_le
    exact
      { h with
        accLen_le := by rw [accAppend_accLen]; omega
        hunting_empty := fun e => absurd e hh
        accumulating_nonempty := fun _ => Nat.succ_pos s.accLen
        marker_first := fun _ => by
          rw [accAppend_acc, set_b0_of_pos h1]
          exact h.marker_first h1
        ack_decoded := by simp [(h.reader hk).2] }

end Within

/-! ## Every step keeps the invariants (O44) -/

section Keep
variable {s t : State}

/-- R207, R209: failing ends a SEND with `rs` as it is and an RDACK with `rs` FAILED. -/
theorem Running.fail (h : Running s) {kind : ErrKind} (hk : kind ≠ .ackMissingData) : Inv (fail kind s) := by
  unfold Machine.fail markFailed
  obtain ⟨hkind, -⟩ | ⟨hkind, hs⟩ := h.kind
  · rw [if_pos hkind]
    exact h.complete hk (by simp) (by simp [(h.reader hkind).2]) h.ack_decoded
  · rw [if_neg (by simp [hkind])]
    exact h.complete hk hs h.ack_iff_validated h.ack_decoded

theorem Running.failTransport (h : Running s) (e : TErr) : Inv (failTransport e s) :=
  (h.setTerr e).fail (by simp)

theorem Running.failFlush (h : Running s) (hk : s.opKind = .rdack) {kind : ErrKind}
    (hp : kind = .ackTimeout ∨ kind = .ackChecksumMismatch) : Inv (failFlush kind s) :=
  (h.setPerr (.inr hp)).issue rfl hk (fun _ => by obtain rfl | rfl := hp <;> simp)
    (by simp [Phase.inLoop]) (by simp) (by simp) (by simp)

theorem Running.loopHead (h : Running s) (hk : s.opKind = .rdack)
    (hl : s.accLen < 7 ∧ s.scr = Buf.zero ∧ s.scrN = 0) : Inv (loopHead s) := by
  obtain ⟨-, e⟩ | ⟨hb, e⟩ := loopHead_cases s <;> rw [e]
  · exact h.failFlush hk (.inl rfl)
  · exact h.issue rfl hk (by simp) (fun _ => hl) (fun _ => hb) (by simp) (by simp)

theorem Running.scanBytes (h : Running s) (hk : s.opKind = .rdack) (bytes : List Byte) :
    Running (scanBytes bytes s) ∧ (scanBytes bytes s).opKind = .rdack := by
  induction bytes generalizing s with
  | nil => exact ⟨h, hk⟩
  | cons b rest ih => exact ih (h.scanByte hk b) (by rw [scanByte_frame]; exact hk)

/-- R155, R158, R159: the end of a scan. -/
theorem Running.afterScan (h : Running s) (hk : s.opKind = .rdack) : Inv (afterScan s) := by
  obtain ⟨hlt, e⟩ | ⟨hle, hc, e⟩ | ⟨-, -, e⟩ := afterScan_cases s <;> rw [e]
  · exact h.resetScratch.consumeQuantum hk ⟨hlt, rfl, rfl⟩
  · refine h.complete (by simp) (by simp) (by simp) fun a ha => ?_
    cases ha
    refine ⟨decodeAck_bytes s.acc, hle, fun hm => ?_⟩
    obtain ⟨-, hsrc⟩ | ⟨hm', -⟩ := checksumSource_cases s
    · have hsum := (checksumOk_iff s).1 hc
      rwa [hsrc] at hsum
    · rw [hm] at hm'; cases hm'
  · exact h.failFlush hk (.inr rfl)

/-- `scannedChunk` is the scan of the stored chunk. -/
theorem scannedChunk_eq (s : State) (h8 : s.trsp.count.toNat ≤ 8) :
    scannedChunk s = scanChunk (storeChunk s.trsp.count.toNat s.trsp.rdata (popRx s.trsp.count.toNat
      (record (.read 8 s.budget (s.trsp.rdata.first s.trsp.count.toNat)) (takeAnswer s)))) := by
  obtain ⟨e1, e2, e3⟩ := scanBytes_congr (s.trsp.rdata.first s.trsp.count.toNat) (popRx s.trsp.count.toNat
    (record (.read 8 s.budget (s.trsp.rdata.first s.trsp.count.toNat)) (takeAnswer s))) s rfl rfl rfl
  rw [scanChunk_storeChunk _ _ _ h8, e1, e2, e3, scannedChunk]

theorem running_scannedChunk (h : Running (takeAnswer s)) (hk : s.opKind = .rdack)
    (h8 : s.trsp.count.toNat ≤ 8) : Running (scannedChunk s) := by
  rw [scannedChunk_eq s h8]
  exact ((((h.record _).popRx _).storeChunk _ h8).scanBytes hk _).1

/-- Every move of the block keeps the invariants: each takes its answer, works within `Running`, and ends the step. -/
theorem BlockMove.inv (hi : Inv s) (h : BlockMove s t) : Inv t := by
  cases h with
  | sendStart code p0 p1 p2 hb =>
    exact (hi.running_sendStart hb code p0 p1 p2).issue rfl rfl (by simp) (by simp [Phase.inLoop]) (by simp) (by simp)
      (by simp)
  | rdackStart timeout hb => exact (hi.running_rdackStart hb timeout).loopHead rfl ⟨by simp, rfl, rfl⟩
  | flushWriteErr hp hr he => exact ((hi.running_takeAnswer hr).record _).loseTx.failTransport _
  | flushWriteOk hp hr he =>
    exact (((hi.running_takeAnswer hr).record _).clearTx.setTxf _).issue rfl (hi.send_phase (.inl hp)) (by simp)
      (by simp [Phase.inLoop]) (by simp) (by simp) (fun _ => ⟨rfl, rfl, rfl⟩)
  | writeErr hp hr he => exact ((hi.running_takeAnswer hr).record _).loseTx.failTransport _
  | writeOk hp hr he h8 =>
    have h := (((hi.running_takeAnswer hr).record (.write s.txf s.trsp.count.toNat)).pushTx
      (s.txf.first s.trsp.count.toNat)).setTxCount h8
    exact h.complete (by simp) (hi.send_kind (.inr hp)).2 h.ack_iff_validated h.ack_decoded
  | pollErr hp hr he => exact ((hi.running_takeAnswer hr).record _).failTransport _
  | pollBelow hp hr he hlt =>
    have hloop : s.ph.inLoop = true := by rw [hp]; rfl
    exact ((hi.running_takeAnswer hr).record _).consumeQuantum (hi.reader_phase (.inl hloop)).1 (hi.loop_short hloop)
  | pollMet hp hr he hle =>
    have hloop : s.ph.inLoop = true := by rw [hp]; rfl
    exact ((hi.running_takeAnswer hr).record _).issue rfl (hi.reader_phase (.inl hloop)).1 (by simp)
      (fun _ => hi.loop_short hloop) (fun _ => hi.budget_pos (.inl hp)) (fun _ => ⟨rfl, rfl⟩) (by simp)
  | readErr hp hr he => exact ((hi.running_takeAnswer hr).record _).loseRx.failTransport _
  | readEmpty hp hr he h0 =>
    exact (((hi.running_takeAnswer hr).record _).popRx 0).failFlush
      (hi.reader_phase (.inl (by rw [hp]; rfl))).1 (.inl rfl)
  | readChunk hp hr he h1 h8 =>
    have hk : s.opKind = .rdack := (hi.reader_phase (.inl (by rw [hp]; rfl))).1
    exact (running_scannedChunk (hi.running_takeAnswer hr) hk h8).afterScan hk
  | flushReadErr hp hr he => exact ((hi.running_takeAnswer hr).record _).loseRx.failTransport _
  | flushReadOk hp hr he =>
    refine ((hi.running_takeAnswer hr).record _).clearRx.fail ?_
    obtain h | h | h := hi.perr_kind <;> simp [h]
  | delayDone hp hd =>
    have hloop : s.ph.inLoop = true := by rw [hp]; rfl
    exact ((hi.running_takeDelay hp).record _).loopHead (hi.reader_phase (.inl hloop)).1 (hi.loop_short hloop)

/-- R230: a reset edge leaves the invariants true. -/
theorem Inv.resetEdge (hi : Inv s) : Inv (resetEdge s) :=
  { hi with
    accLen_le := Nat.zero_le 8
    scrN_le := Nat.zero_le 8
    txCount_le := Nat.zero_le 8
    hunting_empty := by simp
    accumulating_nonempty := by simp
    marker_first := by simp
    ack_iff_validated := by simp
    ack_decoded := by simp
    busy_iff := by simp
    not_busy_and_done := by simp
    idle_done := by simp
    busy_no_err := by simp
    not_head := by simp
    send_phase := by simp
    reader_phase := by simp [Phase.inLoop]
    scanning_phase := by simp
    err_reachable := by simp
    perr_kind := .inl rfl
    flush_pending_kind := by simp
    loop_short := by simp [Phase.inLoop]
    budget_pos := by simp
    req_iff := by simp [Phase.outstanding]
    req_op := by simp [Phase.outstanding]
    read_request := by simp
    write_request := by simp
    delay_iff := by simp
    rsp_answers := by simp
    done_answers := by simp }

theorem Inv.applyEnv (hi : Inv s) (e : EnvStep) : Inv (applyEnv e s) := by
  cases e with
  | host x => exact { hi with }
  | answer r =>
    simp only [Machine.applyEnv]
    split
    · next hq => exact { hi with rsp_answers := fun _ => hq }
    · exact hi
  | answerPlain =>
    simp only [Machine.applyEnv]
    split
    · next hq => exact { hi with rsp_answers := fun _ => hq }
    · exact hi
  | rx bytes => exact { hi with }
  | sent n => exact { hi with }
  | delayDone =>
    simp only [Machine.applyEnv]
    split
    · next hq => exact { hi with done_answers := fun _ => hq }
    · exact hi
  | rst => exact hi.resetEdge

/-- Another agent's turn keeps the invariants. -/
theorem Inv.moveEnv (hi : Inv s) : Inv (moveEnv s) := by
  obtain ⟨-, h⟩ | ⟨e, rest, -, h⟩ := moveEnv_cases s <;> rw [h]
  · exact hi
  · have hrest : Inv { s with env := rest } := { hi with }
    exact hrest.applyEnv e

end Keep

/-- Settles O44: the block's moves keep `Inv` (`BlockMove.inv`), and so do the other agents' turns (`Inv.moveEnv`). -/
theorem stepKeepsInv : Obligations.StepKeepsInv := by
  intro s t hi h
  obtain hm | ⟨rfl, -⟩ := step_moves hi h
  · exact hm.inv hi
  · exact hi.moveEnv

/-! ## What the moves of the block write (O50, O52, O53) -/

section Frames
variable {s t : State}

/-- R28, R143: the loop head leads to the poll or to the flush. -/
theorem loopHead_ph (s : State) : (loopHead s).ph = .rAvail ∨ (loopHead s).ph = .rFlushR := by
  obtain ⟨-, e⟩ | ⟨-, e⟩ := loopHead_cases s <;> simp [e]

@[simp] theorem loopHead_budget (s : State) : (loopHead s).budget = s.budget := by
  obtain ⟨-, e⟩ | ⟨-, e⟩ := loopHead_cases s <;> simp [e]

theorem loopHead_sender (s : State) : sameSender s (loopHead s) ∧ (loopHead s).txq = s.txq := by
  obtain ⟨-, e⟩ | ⟨-, e⟩ := loopHead_cases s <;> simp [e, sameSender]

/-- R28, R155, R159: a scan ends in the delay, in success or in the flush. -/
theorem afterScan_ph (s : State) :
    (afterScan s).ph = .rDelay ∨ (afterScan s).ph = .idle ∨ (afterScan s).ph = .rFlushR := by
  obtain ⟨-, e⟩ | ⟨-, -, e⟩ | ⟨-, -, e⟩ := afterScan_cases s <;> simp [e]

theorem satsub_le (a b : Millis) : (satsub a b).toNat ≤ a.toNat := by
  rw [satsub_toNat]; omega

theorem afterScan_budget_le (s : State) : (afterScan s).budget.toNat ≤ s.budget.toNat := by
  obtain ⟨-, e⟩ | ⟨-, -, e⟩ | ⟨-, -, e⟩ := afterScan_cases s <;> simp [e, satsub_le]

theorem afterScan_sender (s : State) : sameSender s (afterScan s) ∧ (afterScan s).txq = s.txq := by
  obtain ⟨-, e⟩ | ⟨-, -, e⟩ | ⟨-, -, e⟩ := afterScan_cases s <;> simp [e, sameSender]

theorem BlockMove.budget_le (hb : s.busy = true) (h : BlockMove s t) : t.budget.toNat ≤ s.budget.toNat := by
  cases h with
  | sendStart _ _ _ _ idle => simp [hb] at idle
  | rdackStart _ idle => simp [hb] at idle
  | pollBelow => simp [satsub_le]
  | readChunk => exact (afterScan_budget_le _).trans (by simp [scannedChunk])
  | _ => simp

/-- R33: the sender's elements and `txq` are written by the moves of a SEND only. -/
theorem BlockMove.sender (hp : s.ph.inLoop = true ∨ s.ph = .rFlushR) (hb : s.busy = true) (h : BlockMove s t) :
    sameSender s t ∧ t.txq = s.txq := by
  cases h with
  | sendStart _ _ _ _ idle => simp [hb] at idle
  | rdackStart _ idle => simp [hb] at idle
  | flushWriteErr ph | flushWriteOk ph | writeErr ph | writeOk ph => simp [ph, Phase.inLoop] at hp
  | readChunk => exact afterScan_sender (scannedChunk s)
  | delayDone => exact loopHead_sender (record (.delay 100) (takeDelay s))
  | _ => simp [sameSender]

/-- R28: the transitions of `ph` that the block makes. -/
theorem BlockMove.ph_cases (hi : Inv s) (h : BlockMove s t) :
    (t.ph = .idle ∧ s.ph ≠ .rDelay) ∨
      (s.ph = .idle ∧ (t.ph = .sFlushW ∨ t.ph = .rAvail ∨ t.ph = .rFlushR)) ∨
      (s.ph = .sFlushW ∧ t.ph = .sWrite) ∨
      (s.ph = .rAvail ∧ (t.ph = .rDelay ∨ t.ph = .rRead)) ∨
      (s.ph = .rDelay ∧ (t.ph = .rAvail ∨ t.ph = .rFlushR)) ∨
      (s.ph = .rRead ∧ (t.ph = .rDelay ∨ t.ph = .rFlushR)) := by
  cases h with
  | sendStart _ _ _ _ idle => simp [(hi.idle_ports idle).1]
  | rdackStart _ idle => simp [(hi.idle_ports idle).1, loopHead_ph]
  | readChunk ph => obtain e | e | e := afterScan_ph (scannedChunk s) <;> simp [ph, e]
  | delayDone ph => simp [ph, loopHead_ph]
  | flushWriteErr ph | flushWriteOk ph | writeErr ph | writeOk ph | pollErr ph | pollBelow ph | pollMet ph | readErr ph
  | readEmpty ph | flushReadErr ph | flushReadOk ph => simp [ph]

end Frames

/-- Settles O50: the block's own transitions are `BlockMove.ph_cases`; of the other agents only a reset writes `ph`. -/
theorem phaseTransitions : Obligations.PhaseTransitions := by
  intro s t hi h
  obtain hm | ⟨rfl, -⟩ := step_moves hi h
  · exact .inr ((hm.ph_cases hi).imp_left fun ⟨ht, hs⟩ => ⟨ht, .inl hs⟩)
  · obtain ⟨rest, e⟩ | ⟨hph, -⟩ := moveEnv_reset_or_same s
    · rw [e]; exact .inr (.inl ⟨rfl, .inr rfl⟩)
    · exact .inl hph

/-- Settles O52: inside an operation only a consumed quantum and a reset edge write the budget. -/
theorem budgetNeverIncreases : Obligations.BudgetNeverIncreases := by
  intro s t hi hb h
  obtain hm | ⟨rfl, -⟩ := step_moves hi h
  · exact hm.budget_le hb
  · obtain ⟨rest, e⟩ | ⟨-, hr, -, -⟩ := moveEnv_reset_or_same s
    · simp [e]
    · obtain ⟨-, -, -, -, hbudget, -⟩ := hr
      rw [hbudget]

/-- Settles O53: a step with something presented inside an RDACK is one of the reader's moves. -/
theorem rdackStepsLeaveTheSenderAlone : Obligations.RdackStepsLeaveTheSenderAlone := by
  intro s t hi hp hpend h
  have hb : s.busy = true := hi.busy_iff.2 fun e => by simp [e, Phase.inLoop] at hp
  exact (step_blockMove hi hb hpend h).sender hp hb

/-! ## The host's inputs (O55)

No operation reads the host port: on a state with other host inputs each has the same outcome up to those inputs. -/

/-- The state with other host inputs (R34). -/
def withHost (x : HostIn) (s : State) : State := { s with host := x }

/-- An outcome with its next state changed by `f`. -/
def mapNext (f : State → State) : Host.Outcome State Fault Refusal → Host.Outcome State Fault Refusal
  | .next s => .next (f s)
  | .fault e => .fault e
  | .refused e => .refused e

theorem mapNext_next (f : State → State) (s : State) : mapNext f (.next s) = .next (f s) := rfl
theorem mapNext_refused (f : State → State) (e : Refusal) : mapNext f (.refused e) = .refused e := rfl

section HostInputs
variable (x : HostIn) (s : State)

theorem loopHead_withHost : loopHead (withHost x s) = withHost x (loopHead s) := by
  simp only [loopHead, apply_ite (withHost x)]
  rfl

theorem scanBytes_withHost (bytes : List Byte) : scanBytes bytes (withHost x s) = withHost x (scanBytes bytes s) := by
  obtain ⟨e1, e2, e3⟩ := scanBytes_congr bytes (withHost x s) s rfl rfl rfl
  rw [scanBytes_frame, e1, e2, e3, scanBytes_frame bytes s]
  rfl

theorem afterScan_withHost : afterScan (withHost x s) = withHost x (afterScan s) := by
  simp only [afterScan, apply_ite (withHost x)]
  rfl

theorem onChunk_withHost (n : Nat) (data : Buf) : onChunk n data (withHost x s) = withHost x (onChunk n data s) := by
  have hscan : scanChunk (storeChunk n data (withHost x s)) = withHost x (scanChunk (storeChunk n data s)) :=
    scanBytes_withHost x (storeChunk n data s) _
  simp only [onChunk, hscan, afterScan_withHost, apply_ite (withHost x)]
  rfl

/-- R38, R40: no operation reads the host port; the operands of a start come with the instruction. -/
theorem exec_withHost (i : Instr) : exec i (withHost x s) = mapNext (withHost x) (exec i s) := by
  cases i
  case cksum | build | cmd | ack => rfl
  case huntDiscard | huntSync | accAppend | surplusDrop =>
    simp only [exec, execHuntDiscard, execHuntSync, execAccAppend, execSurplusDrop, mapNext_next,
      apply_ite (withHost x)]
    rfl
  case send | rdack | delay =>
    simp only [exec, execSend, execRdack, execDelay, apply_ite (mapNext (withHost x)), mapNext_next,
      apply_ite (withHost x), ← loopHead_withHost]
    rfl
  case remainingRead | flushRead | flushWrite | read | write =>
    simp only [exec, execRemainingRead, execFlushRead, execFlushWrite, execRead, execWrite, onAnswer,
      apply_ite (mapNext (withHost x)), mapNext_next, mapNext_refused, apply_ite (withHost x), ← onChunk_withHost]
    rfl

/-- R38, R237: while busy the host port is not what is presented. -/
theorem pending_withHost (hb : s.busy = true) : pending (withHost x s) = pending s := by
  simp [pending, withHost, hb]

end HostInputs

/-- Settles O55: what is presented while busy is not the host port (`pending_withHost`), and what runs does not read it
(`exec_withHost`). -/
theorem hostInputsDoNotReachAnOperation : Obligations.HostInputsDoNotReachAnOperation := by
  intro s t x hi hb hp h
  change step (withHost x s) = .next (withHost x t)
  obtain ⟨r, i, hr, hd, he⟩ | ⟨-, hn | ⟨r, e, hr, hd, -⟩⟩ := step_cases h
  · have hx : exec i { withHost x s with direct := none } = mapNext (withHost x) (exec i { s with direct := none }) :=
      exec_withHost x { s with direct := none } i
    unfold step cycle
    simp only [pending_withHost x s hb, hr, hd, hx, he, mapNext_next]
  · exact absurd hn hp
  · have hidle := busy_false_of_undecoded hi hr hd
    simp [hb] at hidle

/-! ## Starts, the failure-path flush and the idle block (O6, O8, O13, O24, O39) -/

/-- Settles O6: the start's step is `execSend_start`, and the updates it is made of say the rest. -/
theorem sendStartLatchesAndFlushes : Obligations.SendStartLatchesAndFlushes := by
  intro code p0 p1 p2 timeout s hb
  refine ⟨_, execSend_start code p0 p1 p2 timeout hb, ?_⟩
  simp [requests, sameReader, sameQueues, sameOutside]

/-- Settles O8: both starts test `busy` first. -/
theorem startWhileBusyIsIgnored : Obligations.StartWhileBusyIsIgnored := fun _ hb =>
  ⟨fun code p0 p1 p2 timeout => execSend_busy code p0 p1 p2 timeout hb, fun timeout => execRdack_busy timeout hb⟩

/-- Settles O13: the budget loaded is not 0, so the loop head polls. -/
theorem rdackStartPolls : Obligations.RdackStartPolls := by
  intro timeout s hb ht
  refine ⟨_, execRdack_start timeout hb, ?_⟩
  obtain ⟨h0, -⟩ | ⟨-, e⟩ := loopHead_cases (initReader timeout (startFlags .rdack (.rdack timeout) s))
  · exact absurd h0 ht
  · rw [e]
    simp [requests, sameSender, sameQueues, sameOutside]

/-- Settles O24: the waiting reader fails with the pending kind. -/
theorem flushReadOkReportsThePendingKind : Obligations.FlushReadOkReportsThePendingKind := by
  rintro n s ⟨hr, he, -⟩ hp hk
  refine ⟨_, (execFlushRead_ok hr he).trans (by rw [if_pos hp]), ?_⟩
  simp [endedWith, portsClosed, sameSender, sameOutside, hk]

/-- R39: `h_op` 0 and 3 name no operation, and without `h_start` nothing is named. -/
theorem decodeHost_none {x : HostIn} (h : x.start = false ∨ x.op = 0 ∨ x.op = 3) :
    ∃ e, decode (.host x) = .error e ∧ (e = .noStart ∨ e = .hostNone ∨ e = .hostReserved) := by
  by_cases hs : x.start = true
  · obtain h | h | h := h
    · simp [hs] at h
    · exact ⟨.hostNone, by simp [decode, decodeHost, hs, h], by simp⟩
    · exact ⟨.hostReserved, by simp [decode, decodeHost, hs, h], by simp⟩
  · exact ⟨.noStart, by simp [decode, decodeHost, hs], by simp⟩

/-- Settles O39: nothing is presented that names an operation, so the agents' turn comes, and nothing is scheduled. -/
theorem nothingStartsWithoutAnOperation : Obligations.NothingStartsWithoutAnOperation := by
  intro s hd hq hdly hp henv hh
  have hstay : noRequest s = s := by simp [noRequest, hp, moveEnv, henv]
  unfold step cycle
  cases hr : pending s with
  | none => exact congrArg _ hstay
  | some r =>
    obtain ⟨-, hreq, -⟩ | ⟨-, hreq, -⟩ | ⟨rfl, -, -⟩ := pending_cases hd hr
    · simp [hq] at hreq
    · simp [hdly] at hreq
    · obtain ⟨e, hdec, he⟩ := decodeHost_none hh
      simp only [hdec]
      obtain rfl | rfl | rfl := he <;> exact congrArg _ hstay

/-! ## Reset and the host's outputs (O40, O42, O43) -/

/-- Settles O40: each value is a field of `State.reset`. -/
theorem resetValues : Obligations.ResetValues := by
  unfold Obligations.ResetValues
  decide

/-- R43: the reset state is PH_IDLE with every port closed, so that most of `Inv` holds of it vacuously. -/
theorem inv_reset : Inv State.reset := by
  constructor <;> simp [State.reset, Phase.inLoop, Phase.outstanding]

/-- Settles O43: `inv_reset`; no operation has run, so the trace is empty. -/
theorem invariantsHoldAtReset : Obligations.InvariantsHoldAtReset :=
  ⟨inv_reset, fun _ => rfl, fun h => (by simp [State.reset] at h), fun h => (by simp [State.reset] at h)⟩

/-- R35: an output that is driven under a flag is present exactly under it, and is then its state element. -/
theorem output_iff {α : Type} {c : Prop} [Decidable c] {v : α} :
    ((if c then some v else none).isSome = true ↔ c) ∧ ∀ k, (if c then some v else none) = some k → k = v := by
  by_cases h : c <;> simp [h, eq_comm]

/-- Settles O42: an output is driven under its flags (`output_iff`) or comes from `ack`, which `Inv` ties to
VALIDATED. -/
theorem hostOutputsUnderTheirFlags : Obligations.HostOutputsUnderTheirFlags := by
  intro s hi
  have hack {β : Type} (f : AckFrame → β) : (s.ack.map f).isSome = true ↔ s.rs = .validated := by
    rw [Option.isSome_map]
    exact hi.ack_iff_validated
  have hresult : ∀ a, s.ack = some a → (hostOut s).ackType = some a.typeReceived ∧ (hostOut s).ackQ1 = some a.q1 ∧
      (hostOut s).ackQ2 = some a.q2 := fun a ha => by simp [hostOut, ha]
  refine ⟨rfl, rfl, rfl, hi.ack_iff_validated, hack _, hack _, hack _, hresult, output_iff.1, output_iff.2,
    output_iff.1.trans ?_, output_iff.2, output_iff.1.trans ?_, output_iff.2, output_iff.1.trans ?_, output_iff.2⟩
  · simp
  · simp [and_assoc]
  · simp

end Sys2Proof.Machine

namespace Sys2Proof.Machine

/-! ## What a scan collects (O34, O35)

`Collected s m` says that the stream from its first marker on is `m` so far: the scan of a byte keeps it, with the byte
at the end of `m`, and the marker establishes it. -/

/-- 20_memory.md R69: the reader has found a marker, and `acc` holds the bytes `m` from there on, at most 8. -/
def Collected (s : State) (m : List Byte) : Prop :=
  s.rs = .accumulating ∧ s.accLen = min 8 m.length ∧ s.acc.first (min 8 m.length) = m.take 8

theorem first_set (f : Buf) (b : Byte) {n : Nat} (h : n < 8) : (f.set n b).first (n + 1) = f.first n ++ [b] := by
  interval_cases n <;> rfl

section Scan
variable {s : State} {m : List Byte}

/-- R152: a hunting reader that meets the marker has collected it. -/
theorem collected_marker (hr : s.rs = .hunting) (h0 : s.accLen = 0) : Collected (scanByte s 0xF5) [0xF5] := by
  have hsync : scanByte s 0xF5 = huntSync s := by simp [scanByte, hr, h0]
  rw [hsync]
  exact ⟨rfl, rfl, rfl⟩

/-- R153, R154: the byte is appended while there is room, and dropped once 8 are held. -/
theorem Collected.scanByte (h : Collected s m) (b : Byte) : Collected (scanByte s b) (m ++ [b]) := by
  obtain ⟨hr, hl, ha⟩ := h
  obtain ⟨h8, e⟩ | ⟨-, hh, -⟩ | ⟨-, hh, -⟩ | ⟨h8, -, e⟩ := scanByte_cases s b
  · have hlen : 8 ≤ m.length := by omega
    have hmin : min 8 (m ++ [b]).length = min 8 m.length := by simp; omega
    rw [e]
    exact ⟨hr, by rw [hmin, hl], by rw [hmin, ha, List.take_append_of_le_length hlen]⟩
  · simp [hr] at hh
  · simp [hr] at hh
  · have hlen : m.length < 8 := by omega
    have hmin : min 8 m.length = m.length := by omega
    have hmin' : min 8 (m ++ [b]).length = m.length + 1 := by simp; omega
    rw [hmin] at hl ha
    rw [List.take_of_length_le hlen.le] at ha
    rw [e]
    refine ⟨hr, by rw [hmin', accAppend_accLen, hl], ?_⟩
    rw [hmin', accAppend_acc, hl, first_set _ _ hlen, ha, List.take_of_length_le (by simp; omega)]

theorem Collected.scanBytes (h : Collected s m) (bytes : List Byte) :
    Collected (scanBytes bytes s) (m ++ bytes) := by
  induction bytes generalizing s m with
  | nil => rwa [List.append_nil]
  | cons b rest ih =>
    rw [scanBytes_cons, List.append_cons]
    exact ih (h.scanByte b)

theorem fromMarker_marker (rest : List Byte) : fromMarker (0xF5 :: rest) = 0xF5 :: rest := rfl

theorem fromMarker_discard {b : Byte} (rest : List Byte) (hb : b ≠ 0xF5) : fromMarker (b :: rest) = fromMarker rest :=
  List.dropWhile_cons_of_pos (bne_iff_ne.2 hb)

theorem scanByte_discard {b : Byte} (hr : s.rs = .hunting) (hb : b ≠ 0xF5) : scanByte s b = s := by
  obtain ⟨-, e⟩ | ⟨-, -, -, e⟩ | ⟨-, -, h, -⟩ | ⟨-, h, -⟩ := scanByte_cases s b
  · exact e
  · exact e
  · exact absurd h hb
  · exact absurd hr h

/-- R151: what precedes the first marker is dropped. -/
theorem scanBytes_fromMarker (bytes : List Byte) (hr : s.rs = .hunting) :
    scanBytes bytes s = scanBytes (fromMarker bytes) s := by
  induction bytes with
  | nil => rfl
  | cons b rest ih =>
    by_cases hb : b = 0xF5
    · rw [hb, fromMarker_marker]
    · rw [scanBytes_cons, scanByte_discard hr hb, ih, fromMarker_discard rest hb]

theorem fromMarker_cases (bytes : List Byte) : fromMarker bytes = [] ∨ ∃ rest, fromMarker bytes = 0xF5 :: rest := by
  induction bytes with
  | nil => exact .inl rfl
  | cons b rest ih =>
    by_cases hb : b = 0xF5
    · exact .inr ⟨rest, by rw [hb, fromMarker_marker]⟩
    · rwa [fromMarker_discard rest hb]

theorem collected_fromMarker (bytes : List Byte) (hr : s.rs = .hunting) (h0 : s.accLen = 0)
    (hm : fromMarker bytes ≠ []) : Collected (scanBytes bytes s) (fromMarker bytes) := by
  obtain hnil | ⟨rest, hrest⟩ := fromMarker_cases bytes
  · exact absurd hnil hm
  · rw [scanBytes_fromMarker bytes hr, hrest]
    exact (collected_marker hr h0).scanBytes rest

/-- R163: the state carries over from chunk to chunk, so the cuts leave no mark. -/
theorem scanChunks_eq_scanBytes (chunks : List (List Byte)) (s : State) :
    scanChunks chunks s = scanBytes chunks.flatten s :=
  List.foldl_flatten.symm

/-- Seven bytes of a stream are enough to fill `acc[0]` to `acc[6]` with them. -/
theorem Collected.seven (h : Collected s m) (h7 : 7 ≤ m.length) : 7 ≤ s.accLen ∧ s.acc.first 7 = m.take 7 := by
  obtain ⟨-, hl, ha⟩ := h
  have hfirst := congrArg (List.take 7) ha
  rw [Buf.first, List.take_take, List.take_take, Nat.min_eq_left (by omega)] at hfirst
  exact ⟨by omega, hfirst⟩

theorem scanChunks_seven {chunks : List (List Byte)} (hr : s.rs = .hunting) (h0 : s.accLen = 0)
    (h7 : 7 ≤ (fromMarker chunks.flatten).length) :
    7 ≤ (scanChunks chunks s).accLen ∧ (scanChunks chunks s).acc.first 7 = (fromMarker chunks.flatten).take 7 := by
  rw [scanChunks_eq_scanBytes]
  exact (collected_fromMarker _ hr h0 (List.ne_nil_of_length_pos (by omega))).seven h7

theorem scanChunks_ckSource (chunks : List (List Byte)) (s : State) : (scanChunks chunks s).ckSource = s.ckSource := by
  rw [scanChunks_eq_scanBytes, scanBytes_frame]
  rfl

/-- R158, R159: in the default mode the verdict and the fields are functions of `acc[0]` to `acc[6]`. -/
theorem verdict_congr {s t : State} (hs : s.ckSource = .accumulator) (ht : t.ckSource = .accumulator)
    (h : s.acc.first 7 = t.acc.first 7) : checksumOk s = checksumOk t ∧ decodeAck s.acc = decodeAck t.acc := by
  simp only [Buf.first, Buf.toList, List.take_succ_cons, List.take_zero, List.cons.injEq, and_true] at h
  obtain ⟨-, h1, h2, h3, h4, h5, h6⟩ := h
  constructor
  · rw [Bool.eq_iff_iff, checksumOk_iff, checksumOk_iff]
    simp only [checksumSource, hs, ht, h1, h2, h3, h4, h5, h6]
  · rw [decodeAck_bytes, decodeAck_bytes, h1, h2, h3]

end Scan

/-- Settles O34: without a marker every byte is dropped (`scanBytes_fromMarker`), with one the stream is collected from
it on (`collected_fromMarker`). -/
theorem scanCollectsFromTheFirstMarker : Obligations.ScanCollectsFromTheFirstMarker := by
  rintro bytes m s hr h0 rfl
  refine ⟨fun hnil => ?_, fun hm => collected_fromMarker bytes hr h0 hm⟩
  rw [scanBytes_fromMarker bytes hr, hnil, scanBytes_nil]

/-- Settles O35: both scans leave the same bytes in `acc[0]` to `acc[6]` (`scanChunks_seven`), and they decide
(`verdict_congr`). -/
theorem verdictIsFixedByTheFirstSevenBytes : Obligations.VerdictIsFixedByTheFirstSevenBytes := by
  intro xs ys s t hsr hs0 hsc htr ht0 htc h7 hsame
  have h7' : 7 ≤ (fromMarker ys.flatten).length := by
    have hlen := congrArg List.length hsame
    simp only [List.length_take] at hlen
    omega
  obtain ⟨hx, hxa⟩ := scanChunks_seven hsr hs0 h7
  obtain ⟨hy, hya⟩ := scanChunks_seven htr ht0 h7'
  exact ⟨hx, hy, verdict_congr ((scanChunks_ckSource xs s).trans hsc) ((scanChunks_ckSource ys t).trans htc)
    (hxa.trans (hsame.trans hya.symm))⟩

/-! ## The transport's queues (O54)

No operation reads the queues except to write them again: on a state with other queues each has the same outcome once
the queues are forgotten. -/

/-- The state with other queues (20_memory.md R61). -/
def withQueues (rxq txq : List Byte) (s : State) : State := { s with rxq := rxq, txq := txq }

/-- The state with its queues forgotten. -/
def forgetQueues (s : State) : State := withQueues [] [] s

theorem eq_withQueues_of_forgetQueues {s t : State} (h : forgetQueues s = forgetQueues t) :
    s = withQueues s.rxq s.txq t :=
  show withQueues s.rxq s.txq (forgetQueues s) = withQueues s.rxq s.txq (forgetQueues t) by rw [h]

theorem next_of_mapNext {f : State → State} {o : Host.Outcome State Fault Refusal} {t : State}
    (h : mapNext f o = .next t) : ∃ s, o = .next s ∧ f s = t := by
  cases o with
  | next s => exact ⟨s, rfl, by simpa [mapNext] using h⟩
  | fault e => simp [mapNext] at h
  | refused e => simp [mapNext] at h

section Queues
variable (rxq txq : List Byte) (s : State)

theorem forgetQueues_scanBytes (bytes : List Byte) :
    forgetQueues (scanBytes bytes s) = scanBytes bytes (forgetQueues s) := by
  obtain ⟨e1, e2, e3⟩ := scanBytes_congr bytes (forgetQueues s) s rfl rfl rfl
  rw [scanBytes_frame bytes (forgetQueues s), e1, e2, e3, scanBytes_frame bytes s]
  rfl

/-- R148 to R159: what a waiting reader makes of a chunk does not depend on the queues. -/
theorem forgetQueues_onChunk (n : Nat) (data : Buf) :
    forgetQueues (onChunk n data s) = onChunk n data (forgetQueues s) := by
  have hscan : scanChunk (storeChunk n data (forgetQueues s)) = forgetQueues (scanChunk (storeChunk n data s)) :=
    (forgetQueues_scanBytes (storeChunk n data s) _).symm
  simp only [onChunk, hscan, afterScan, apply_ite forgetQueues]
  rfl

/-- 20_memory.md R77, 43_transport_ops.md R189: once the queues are forgotten, an outcome does not depend on what they
held. -/
theorem exec_withQueues (i : Instr) :
    mapNext forgetQueues (exec i (withQueues rxq txq s)) = mapNext forgetQueues (exec i s) := by
  cases i
  case cksum | build | cmd | ack => rfl
  case huntDiscard | huntSync | accAppend | surplusDrop =>
    simp only [exec, execHuntDiscard, execHuntSync, execAccAppend, execSurplusDrop, mapNext_next,
      apply_ite forgetQueues]
    rfl
  case send | rdack | delay =>
    simp only [exec, execSend, execRdack, execDelay, loopHead, apply_ite (mapNext forgetQueues), mapNext_next,
      apply_ite forgetQueues]
    rfl
  case remainingRead | flushRead | flushWrite | read | write =>
    simp only [exec, execRemainingRead, execFlushRead, execFlushWrite, execRead, execWrite, onAnswer,
      apply_ite (mapNext forgetQueues), mapNext_next, mapNext_refused, apply_ite forgetQueues, forgetQueues_onChunk]
    rfl

end Queues

/-- Settles O54: `exec_withQueues`; what agrees once the queues are forgotten differs in the queues only. -/
theorem blockSeesOnlyTheAnswers : Obligations.BlockSeesOnlyTheAnswers := by
  intro i s t rxq txq h
  obtain ⟨u, hu, hf⟩ := next_of_mapNext ((exec_withQueues rxq txq s i).trans (congrArg (mapNext forgetQueues) h))
  exact ⟨u.rxq, u.txq, hu.trans (congrArg _ (eq_withQueues_of_forgetQueues hf))⟩

end Sys2Proof.Machine

namespace Sys2Proof.Machine

/-! ## Decoding and encoding (O56, O58)

Each wire format, and each byte in its context, is read back from its encoding; `decodeWire_ok_cases` says that no other
bytes decode. -/

/-- R91: a command frame decodes to its five bytes. -/
theorem decode_wire_cmd (c a b d k : Byte) : decode (.wire [0, c, a, b, d, 0, k, 0]) = .ok (.cmd c a b d k) := rfl

/-- R92: an acknowledgement of eight bytes decodes to its seven after the marker. -/
theorem decode_wire_ack (t q r u v k w : Byte) :
    decode (.wire [0xF5, t, q, r, u, v, k, w]) = .ok (.ack t q r u v k (some w)) := rfl

/-- R107: byte 7 may be absent. -/
theorem decode_wire_ack_short (t q r u v k : Byte) :
    decode (.wire [0xF5, t, q, r, u, v, k]) = .ok (.ack t q r u v k none) := rfl

theorem decodeScan_hunting_marker : decodeScan .hunting 0xF5 = .huntSync := rfl

theorem decodeScan_hunting_noise {b : Byte} (hb : b ≠ 0xF5) : decodeScan .hunting b = .huntDiscard b := if_neg hb

/-- R91, R92, R107: the bytes that decode as a wire frame are those of one of the three formats. -/
theorem decodeWire_ok_cases {bytes : List Byte} {i : Instr} (h : decodeWire bytes = .ok i) :
    (∃ c a b d k, bytes = [0, c, a, b, d, 0, k, 0] ∧ i = .cmd c a b d k) ∨
      (∃ t q r u v k w, bytes = [0xF5, t, q, r, u, v, k, w] ∧ i = .ack t q r u v k (some w)) ∨
      (∃ t q r u v k, bytes = [0xF5, t, q, r, u, v, k] ∧ i = .ack t q r u v k none) := by
  unfold decodeWire at h
  split at h
  · split_ifs at h with hm h0 hres <;> cases h
    · exact .inr (.inl ⟨_, _, _, _, _, _, _, by rw [hm, params_marker], rfl⟩)
    · obtain ⟨h5, h7⟩ := hres
      exact .inl ⟨_, _, _, _, _, by rw [h0, h5, h7], rfl⟩
  · split_ifs at h with hm
    cases h
    exact .inr (.inr ⟨_, _, _, _, _, _, by rw [hm, params_marker], rfl⟩)
  · cases h

/-- The encoding of a well-formed instruction names it. Only HUNT_DISCARD needs the operand check: a byte scanned while
HUNTING is dropped unless it is the marker (R151). -/
theorem decode_encode (i : Instr) (hi : i.wellFormed = true) : decode (encode i) = .ok i := by
  cases i with
  | cmd c a b d k => exact decode_wire_cmd c a b d k
  | ack t q r u v k w =>
    cases w with
    | none => exact decode_wire_ack_short t q r u v k
    | some w => exact decode_wire_ack t q r u v k w
  | huntDiscard b => exact congrArg Except.ok (decodeScan_hunting_noise (of_decide_eq_true hi))
  | huntSync => exact congrArg Except.ok decodeScan_hunting_marker
  | _ => rfl

theorem encode_of_decode_wire {bytes : List Byte} {i : Instr} (h : decode (.wire bytes) = .ok i) :
    encode i = .wire bytes := by
  obtain ⟨c, a, b, d, k, rfl, rfl⟩ | ⟨t, q, r, u, v, k, w, rfl, rfl⟩ | ⟨t, q, r, u, v, k, rfl, rfl⟩ :=
    decodeWire_ok_cases h <;> rfl

theorem encode_decodeScan (c : ScanCtx) (b : Byte) : encode (decodeScan c b) = .scan c b := by
  cases c with
  | hunting =>
    by_cases hb : b = 0xF5
    · rw [hb, decodeScan_hunting_marker]; rfl
    · rw [decodeScan_hunting_noise hb]; rfl
  | room => rfl
  | full => rfl

/-- Settles O56: the round trip of each constructor (`decode_encode`), and back from the three frame formats
(`decodeWire_ok_cases`) and from a byte in its context. -/
theorem decodeAndEncodeAgree : Obligations.DecodeAndEncodeAgree :=
  ⟨decode_encode, fun _ _ => encode_of_decode_wire,
    fun c b _ h => Except.ok.inj h ▸ encode_decodeScan c b⟩

/-- Settles O58: five of the words are instances of the round trips above; the two reserved codes are evaluated. -/
theorem sampleWordsDecode : Obligations.SampleWordsDecode :=
  ⟨decode_wire_cmd 0x2D 0x12 0x34 0x56 0x5D, decode_wire_ack 0x10 0x03 0x00 0x00 0x00 0x13 0x00,
    decode_encode .huntSync rfl, decode_encode (.send 0x09 0 0 0 0) rfl, decode_encode (.read 8 900) (by decide),
    by decide, by decide⟩

/-! ## The scan performs the decoded action (O33) -/

section ScanActions
variable {s : State}

theorem scanCtx_full (h : s.accLen = 8) : scanCtx s = .full := if_pos h

theorem scanCtx_hunting (h : s.accLen ≠ 8) (hr : s.rs = .hunting) : scanCtx s = .hunting :=
  (if_neg h).trans (if_pos hr)

theorem scanCtx_room (h : s.accLen ≠ 8) (hr : s.rs ≠ .hunting) : scanCtx s = .room :=
  (if_neg h).trans (if_neg hr)

/-- R151: the byte is dropped; the state is unchanged whether the action applies or not. -/
theorem execHuntDiscard_eq (b : Byte) (s : State) : execHuntDiscard b s = .next s :=
  congrArg Host.Outcome.next (ite_self s)

/-- R154: the byte is dropped; the state is unchanged whether the action applies or not. -/
theorem execSurplusDrop_eq (b : Byte) (s : State) : execSurplusDrop b s = .next s :=
  congrArg Host.Outcome.next (ite_self s)

theorem execHuntSync_hunting (h : scanCtx s = .hunting) : execHuntSync s = .next (huntSync s) :=
  congrArg Host.Outcome.next (if_pos h)

theorem execAccAppend_room (b : Byte) (hr : s.rs = .accumulating) (h : s.accLen < 8) :
    execAccAppend b s = .next (accAppend b s) :=
  congrArg Host.Outcome.next (if_pos ⟨hr, h⟩)

end ScanActions

/-- Settles O33: in each of the four cases of the scan (`scanByte_cases`) the decoder names the action it performs. -/
theorem scanPerformsTheDecodedAction : Obligations.ScanPerformsTheDecodedAction := by
  intro b s hlive hle
  obtain ⟨h8, e⟩ | ⟨h8, hh, hb, e⟩ | ⟨h8, hh, rfl, e⟩ | ⟨h8, hh, e⟩ := scanByte_cases s b <;> rw [e]
  · rw [scanCtx_full h8]
    exact execSurplusDrop_eq b s
  · rw [scanCtx_hunting h8 hh, decodeScan_hunting_noise hb]
    exact execHuntDiscard_eq b s
  · rw [scanCtx_hunting h8 hh, decodeScan_hunting_marker]
    exact execHuntSync_hunting (scanCtx_hunting h8 hh)
  · rw [scanCtx_room h8 hh]
    exact execAccAppend_room b (hlive.resolve_left hh) (by omega)

/-! ## The 64-bit pictures (O57)

A picture is taken apart from its last byte upwards, and put together again from its first byte downwards; so an
opcode-table word of 64 bits is the frame it pictures. -/

/-- The bytes above the last one appended are those of what it was appended to. -/
theorem extractLsb'_append_byte {n : Nat} (x : BitVec n) (b : Byte) (k : Nat) :
    (x ++ b).extractLsb' (k + 8) 8 = x.extractLsb' k 8 :=
  BitVec.extractLsb'_append_eq_of_le (Nat.le_add_left 8 k)

/-- The bits above a byte of a picture, followed by that byte, are one run of bits of the picture. -/
theorem extractLsb'_byte_append {len : Nat} (p : BitVec 64) (k : Nat) :
    p.extractLsb' (k + 8) len ++ p.extractLsb' k 8 = p.extractLsb' k (len + 8) :=
  BitVec.extractLsb'_append_extractLsb'_eq_extractLsb' rfl

theorem frameOfPicture_framePicture (f : Buf) : frameOfPicture (framePicture f) = f := by
  simp only [frameOfPicture, framePicture, extractLsb'_append_byte, BitVec.extractLsb'_append_eq_right,
    BitVec.extractLsb'_eq_self]

theorem framePicture_frameOfPicture (p : BitVec 64) : framePicture (frameOfPicture p) = p := by
  simp only [framePicture, frameOfPicture, extractLsb'_byte_append, Nat.reduceAdd, BitVec.extractLsb'_eq_self]

/-- A 64-bit opcode-table word is the picture of a frame and decodes as that frame. -/
theorem decodeTableWord_picture {f : Buf} {i : Instr} (h : decode (.wire f.toList) = .ok i) :
    decodeTableWord 64 (framePicture f).toNat = some i := by
  have hr : tableRequest 64 (framePicture f).toNat = some (.wire f.toList) := by
    simp [tableRequest, frameOfPicture_framePicture]
  simp only [decodeTableWord, hr, h]

/-- Settles O57: the pictures lose nothing either way, so the table's words decode as the frames' bytes do. -/
theorem framePicturesDecode : Obligations.FramePicturesDecode :=
  ⟨frameOfPicture_framePicture, framePicture_frameOfPicture,
    fun c a b d k => decodeTableWord_picture (decode_wire_cmd c a b d k),
    fun t q r u v k w => decodeTableWord_picture (decode_wire_ack t q r u v k w)⟩

end Sys2Proof.Machine

namespace Sys2Proof.Machine

/-! ## The frame codec (O1, O2, O4, O5)

CKSUM is a fold over the list of the bytes at indices 1 to 5, so it depends on that list only up to permutation; and it
is linear in each of them: a difference at one index is the same difference of the result. -/

/-- R120: the fold that CKSUM is, over the five bytes in the order of their indices. -/
theorem cksum_eq_foldl_ofFn (f : Buf) :
    cksum f = (List.ofFn fun i : Fin 5 => f.get (i.val + 1)).foldl (· ^^^ ·) 0 := rfl

/-- R121 (b): XOR is associative and commutative, so a permutation of the bytes folds to the same value. -/
theorem cksum_eq_of_perm {f g : Buf} (p : Equiv.Perm (Fin 5))
    (h : ∀ i : Fin 5, g.get (i.val + 1) = f.get ((p i).val + 1)) : cksum g = cksum f := by
  rw [cksum_eq_foldl_ofFn, cksum_eq_foldl_ofFn, funext h]
  exact (p.ofFn_comp_perm fun i => f.get (i.val + 1)).foldl_eq _

/-- R121 (a): the other three bytes are not read. -/
theorem cksum_congr {f g : Buf} (h : ∀ i, 1 ≤ i → i ≤ 5 → f.get i = g.get i) : cksum f = cksum g :=
  cksum_eq_of_perm (Equiv.refl (Fin 5)) fun i => h (i.val + 1) (by omega) (by omega)

/-- R121 (d): an XOR difference at one of the indices 1 to 5 is the difference of the checksums. -/
theorem cksum_set_xor (f : Buf) {i : Nat} (d : Byte) (h1 : 1 ≤ i) (h5 : i ≤ 5) :
    cksum (f.set i (f.get i ^^^ d)) = cksum f ^^^ d := by
  rw [cksum_bytes, cksum_bytes]
  interval_cases i <;> simp only [Buf.set, Buf.get] <;> ac_rfl

/-- A byte written at one index leaves the byte at another: a pair of indices is either one index, or two fields. -/
theorem get_set_of_ne (f : Buf) {i j : Nat} (v : Byte) (h : i ≠ j) : (f.set i v).get j = f.get j := by
  unfold Buf.set
  split <;> unfold Buf.get <;> split <;> trivial

/-- R121 (e): two equal differences at different indices cancel. -/
theorem cksum_set_xor_twice (f : Buf) {i j : Nat} (d : Byte) (hi1 : 1 ≤ i) (hi5 : i ≤ 5) (hj1 : 1 ≤ j) (hj5 : j ≤ 5)
    (h : i ≠ j) : cksum ((f.set i (f.get i ^^^ d)).set j (f.get j ^^^ d)) = cksum f := by
  rw [← get_set_of_ne f (f.get i ^^^ d) h, cksum_set_xor _ d hj1 hj5, cksum_set_xor f d hi1 hi5, BitVec.xor_assoc,
    BitVec.xor_self, BitVec.xor_zero]

/-- R121 (e): bytes 6 that differ as the checksums do match them together. -/
theorem b6_eq_cksum_iff {f g : Buf} (h : g.b6 ^^^ f.b6 = cksum g ^^^ cksum f) : g.b6 = cksum g ↔ f.b6 = cksum f := by
  constructor <;> intro he <;> rw [he] at h
  · exact (BitVec.xor_right_inj _).1 h
  · exact (BitVec.xor_left_inj _).1 h

/-- Settles O1: `cksum_bytes`. -/
theorem cksumXorsBytesOneToFive : Obligations.CksumXorsBytesOneToFive := cksum_bytes

/-- Settles O2: the fold is over the five bytes only (`cksum_congr`) and takes them in any order (`cksum_eq_of_perm`);
a difference passes through it (`cksum_set_xor`), so two cancel, and an equal one at index 6 is not seen. -/
theorem cksumLaws : Obligations.CksumLaws :=
  ⟨fun _ _ => cksum_congr, fun _ _ => cksum_eq_of_perm, fun f _ => cksum_set_xor f,
    fun f _ _ => cksum_set_xor_twice f, fun _ _ => b6_eq_cksum_iff⟩

/-- R123: `txf` and nothing else is written. -/
theorem exec_build (code p0 p1 p2 : Byte) (s : State) :
    exec (.build code p0 p1 p2) s = .next { s with txf := buildFrame code p0 p1 p2 } := rfl

/-- Settles O4: BUILD writes `buildFrame` to `txf` (`exec_build`), whose eight bytes `buildFrame_bytes` says. -/
theorem buildWritesTheFrame : Obligations.BuildWritesTheFrame := by
  intro code p0 p1 p2 s
  rw [exec_build, buildFrame_bytes]

/-- R124 (a), (b): the stored checksum is the checksum of the frame it stands in. -/
theorem buildFrame_b6 (code p0 p1 p2 : Byte) : (buildFrame code p0 p1 p2).b6 = cksum (buildFrame code p0 p1 p2) := by
  rw [cksum_bytes, buildFrame_bytes]
  exact BitVec.xor_zero.symm

/-- R124 (c): the operands are read back from indices 1 to 4. -/
theorem buildFrame_injective {c a b d c' a' b' d' : Byte} (h : buildFrame c a b d = buildFrame c' a' b' d') :
    c = c' ∧ a = a' ∧ b = b' ∧ d = d' := by
  rw [buildFrame_bytes, buildFrame_bytes] at h
  exact ⟨congrArg Buf.b1 h, congrArg Buf.b2 h, congrArg Buf.b3 h, congrArg Buf.b4 h⟩

/-- Settles O5: the zero bytes are those of `buildFrame_bytes`, and the marker 0xF5 is not 0. -/
theorem builtFrameLaws : Obligations.BuiltFrameLaws := by
  refine ⟨fun code p0 p1 p2 => ⟨buildFrame_b6 code p0 p1 p2, ?_⟩, fun _ _ _ _ _ _ _ _ => buildFrame_injective⟩
  rw [buildFrame_bytes, params_marker]
  exact ⟨rfl, rfl, rfl, (by decide : (0 : Byte) ≠ 0xF5)⟩

end Sys2Proof.Machine

namespace Sys2Proof.Machine

/-! ## What a trace says, line by line

The budget after a trace falls by a quantum with every DELAY and by nothing else; the marker is seen in the bytes of a
READ only. -/

@[simp] theorem budgetAfter_delay (ms : Millis) (tr : List TraceLine) :
    budgetAfter (.delay ms :: tr) = budgetAfter tr - 100 := by
  simp only [budgetAfter, startTimeout, quanta]
  omega

@[simp] theorem budgetAfter_remainingRead (c : Count) (tr : List TraceLine) :
    budgetAfter (.remainingRead c :: tr) = budgetAfter tr := rfl

@[simp] theorem budgetAfter_read (len : BitVec 4) (time : Millis) (data : List Byte) (tr : List TraceLine) :
    budgetAfter (.read len time data :: tr) = budgetAfter tr := rfl

@[simp] theorem seenMarker_delay (ms : Millis) (tr : List TraceLine) :
    seenMarker (.delay ms :: tr) = seenMarker tr := rfl

@[simp] theorem seenMarker_remainingRead (c : Count) (tr : List TraceLine) :
    seenMarker (.remainingRead c :: tr) = seenMarker tr := rfl

@[simp] theorem seenMarker_read (len : BitVec 4) (time : Millis) (data : List Byte) (tr : List TraceLine) :
    seenMarker (.read len time data :: tr) = (data.contains 0xF5 || seenMarker tr) := rfl

/-- R166: an iteration whose poll was below the threshold. -/
theorem iterations_pollBelow {c : Count} {tr : List TraceLine} (hc : c.toNat < thresholdAfter tr)
    (hb : 0 < budgetAfter tr) (h : iterations tr = true) : iterations (.delay 100 :: .remainingRead c :: tr) = true := by
  simp [iterations, hc, hb, h]

theorem polled_remainingRead {c : Count} {tr : List TraceLine} :
    polled (.remainingRead c :: tr) = true ↔
      thresholdAfter tr ≤ c.toNat ∧ 0 < budgetAfter tr ∧ iterations tr = true := by
  simp [polled, and_assoc]

theorem polled_cases {tr : List TraceLine} (h : polled tr = true) :
    ∃ c rest, tr = .remainingRead c :: rest ∧
      thresholdAfter rest ≤ c.toNat ∧ 0 < budgetAfter rest ∧ iterations rest = true := by
  unfold polled at h
  split at h
  · next c rest => exact ⟨c, rest, rfl, polled_remainingRead.1 h⟩
  · cases h

theorem readLine_read {empty : Bool} {time : Millis} {data : List Byte} {tr : List TraceLine} :
    readLine empty (.read 8 time data :: tr) = true ↔
      time.toNat = budgetAfter tr ∧ data.isEmpty = empty ∧ polled tr = true := by
  simp [readLine, and_assoc]

/-- R166: an iteration whose READ returned bytes. -/
theorem iterations_readLine {tr : List TraceLine} (h : readLine false tr = true) :
    iterations (.delay 100 :: tr) = true := by
  unfold readLine at h
  split at h
  · simp only [Bool.and_eq_true, decide_eq_true_eq, beq_iff_eq] at h
    obtain ⟨⟨⟨hlen, htime⟩, hdata⟩, hpoll⟩ := h
    obtain ⟨c, rest, rfl, hc, hb, hit⟩ := polled_cases hpoll
    rw [budgetAfter_remainingRead] at htime
    simp [iterations, hlen, htime, hdata, hc, hb, hit]
  · cases h

/-! ## `TraceOk`, phase by phase -/

/-- The reader follows its trace: the budget is the one left after it, and the marker has been found when the trace shows
it. -/
def Tracks (s : State) : Prop :=
  budgetAfter s.trace = s.budget.toNat ∧ (s.rs = .accumulating ↔ seenMarker s.trace = true)

/-- What the trace says at the loop head (R143, R166): complete iterations, and the reader follows them. -/
def AtHead (s : State) : Prop := iterations s.trace = true ∧ Tracks s

section Phases
variable {s : State}

theorem traceOk_send (hk : s.opKind = .send) : TraceOk s ↔ sendTrace s = true := by
  simp [TraceOk, hk]

theorem traceOk_rdack (hk : s.opKind = .rdack) :
    TraceOk s ↔ rdackTrace s = true ∧ (s.ph.inLoop = true → (s.rs = .accumulating ↔ seenMarker s.trace = true)) := by
  simp [TraceOk, hk]

theorem traceOk_sFlushW (hk : s.opKind = .send) (hp : s.ph = .sFlushW) :
    TraceOk s ↔ s.trace = [.send s.opCode s.opP0 s.opP1 s.opP2] := by
  simp [traceOk_send hk, sendTrace, hp]

theorem traceOk_sWrite (hk : s.opKind = .send) (hp : s.ph = .sWrite) :
    TraceOk s ↔ s.trace = [.flushWrite, .send s.opCode s.opP0 s.opP1 s.opP2] := by
  simp [traceOk_send hk, sendTrace, hp]

theorem traceOk_rAvail (hk : s.opKind = .rdack) (hp : s.ph = .rAvail) : TraceOk s ↔ AtHead s := by
  simp [traceOk_rdack hk, rdackTrace, hp, Phase.inLoop, AtHead, Tracks, and_assoc]

theorem traceOk_rDelay (hk : s.opKind = .rdack) (hp : s.ph = .rDelay) :
    TraceOk s ↔ AtHead (record (.delay 100) s) := by
  simp [traceOk_rdack hk, rdackTrace, hp, Phase.inLoop, AtHead, Tracks, and_assoc]

theorem traceOk_rRead (hk : s.opKind = .rdack) (hp : s.ph = .rRead) :
    TraceOk s ↔ polled s.trace = true ∧ Tracks s := by
  simp [traceOk_rdack hk, rdackTrace, hp, Phase.inLoop, Tracks, and_assoc]

theorem traceOk_rFlushR (hk : s.opKind = .rdack) (hp : s.ph = .rFlushR) :
    TraceOk s ↔ flushable s.perr s.trace = true := by
  simp [traceOk_rdack hk, rdackTrace, hp, Phase.inLoop]

theorem traceOk_rdackIdle (hk : s.opKind = .rdack) (hp : s.ph = .idle) :
    TraceOk s ↔ rdackDone s.err s.trace = true := by
  simp [traceOk_rdack hk, rdackTrace, hp, Phase.inLoop]

end Phases

/-! ## What the reader's shared operations make of the trace -/

section Reader
variable {s : State}

/-- R145: while an RDACK scans, the threshold in force is the one its trace gives. -/
theorem Tracks.threshold_eq (h : Tracks s) (hs : s.rs = .hunting ∨ s.rs = .accumulating) :
    threshold s = thresholdAfter s.trace := by
  obtain ⟨-, hm⟩ := h
  obtain hr | hr := hs <;> simp [hr, threshold, thresholdAfter] at hm ⊢ <;> simp [hm]

/-- R143: past the loop head there is budget left, and the trace says so. -/
theorem Tracks.budgetAfter_pos (h : Tracks s) (hb : s.budget ≠ 0) : 0 < budgetAfter s.trace := by
  obtain ⟨he, -⟩ := h
  rw [he]
  exact Nat.pos_of_ne_zero fun h0 => hb (BitVec.eq_of_toNat_eq h0)

/-- R155, R191: a quantum leaves the budget as its DELAY will leave it in the trace. -/
theorem Tracks.consumeQuantum (h : Tracks s) : Tracks (record (.delay 100) (consumeQuantum s)) := by
  obtain ⟨hb, hm⟩ := h
  exact ⟨by simp [hb, satsub_toNat], by simpa using hm⟩

theorem traceOk_consumeQuantum (hk : s.opKind = .rdack) (hit : iterations (.delay 100 :: s.trace) = true)
    (h : Tracks s) : TraceOk (consumeQuantum s) :=
  Iff.mpr (traceOk_rDelay hk rfl) ⟨hit, h.consumeQuantum⟩

/-- R143, R160: the loop head polls, or flushes when the budget is used up. -/
theorem AtHead.loopHead (h : AtHead s) (hk : s.opKind = .rdack) : TraceOk (loopHead s) := by
  obtain ⟨h0, e⟩ | ⟨-, e⟩ := loopHead_cases s <;> rw [e]
  · obtain ⟨hit, hb, -⟩ := h
    refine Iff.mpr (traceOk_rFlushR hk rfl) ?_
    simp [flushable, hit, hb, h0]
  · exact Iff.mpr (traceOk_rAvail hk rfl) h

/-- R155, R158, R159: whatever ends the scan, it stands after a READ with bytes. -/
theorem traceOk_afterScan (hk : s.opKind = .rdack) (hread : readLine false s.trace = true) (h : Tracks s) :
    TraceOk (afterScan s) := by
  obtain ⟨-, e⟩ | ⟨-, -, e⟩ | ⟨-, -, e⟩ := afterScan_cases s <;> rw [e]
  · exact traceOk_consumeQuantum hk (iterations_readLine hread) h
  · exact Iff.mpr (traceOk_rdackIdle hk rfl) hread
  · exact Iff.mpr (traceOk_rFlushR hk rfl) hread

/-- R162: once accumulating, a scan stays so. -/
theorem scanBytes_accumulating (bytes : List Byte) (h : s.rs = .accumulating) :
    (scanBytes bytes s).rs = .accumulating := by
  induction bytes generalizing s with
  | nil => exact h
  | cons b rest ih =>
    rw [scanBytes_cons]
    apply ih
    obtain ⟨-, e⟩ | ⟨-, -, -, e⟩ | ⟨-, -, -, e⟩ | ⟨-, -, e⟩ := scanByte_cases s b <;> simp [e, h]

theorem fromMarker_eq_nil_iff (bytes : List Byte) : fromMarker bytes = [] ↔ bytes.contains 0xF5 = false := by
  rw [fromMarker, List.dropWhile_eq_nil_iff, List.contains_eq_mem, decide_eq_false_iff_not]
  simp only [bne_iff_ne]
  exact ⟨fun h hm => h _ hm rfl, fun hm b hb he => hm (he ▸ hb)⟩

/-- R151, R152: a scan accumulates once a marker is among its bytes, or was found before. -/
theorem scanBytes_accumulating_iff (bytes : List Byte) (hs : s.rs = .hunting ∨ s.rs = .accumulating)
    (h0 : s.rs = .hunting → s.accLen = 0) :
    (scanBytes bytes s).rs = .accumulating ↔ bytes.contains 0xF5 = true ∨ s.rs = .accumulating := by
  obtain hr | hr := hs
  · cases hc : bytes.contains 0xF5
    · have hnil := (fromMarker_eq_nil_iff bytes).2 hc
      simp [scanBytes_fromMarker bytes hr, hnil, scanBytes_nil, hr]
    · have hm : fromMarker bytes ≠ [] := fun hnil => by
        rw [(fromMarker_eq_nil_iff bytes).1 hnil] at hc
        cases hc
      obtain ⟨hacc, -, -⟩ := collected_fromMarker bytes hr (h0 hr) hm
      simp [hacc]
  · simp [scanBytes_accumulating bytes hr, hr]

/-- R149, R150: the scan of a READ's bytes follows the READ's line. -/
theorem tracks_scannedChunk (hi : Inv s) (hp : s.ph = .rRead) (h : Tracks s) : Tracks (scannedChunk s) := by
  obtain ⟨hb, hm⟩ := h
  obtain ⟨-, hs⟩ := hi.reader_phase (.inl (by rw [hp]; rfl))
  refine ⟨hb, (scanBytes_accumulating_iff _ hs hi.hunting_empty).trans ?_⟩
  rw [hm, ← Bool.or_eq_true]
  rfl

theorem readLine_scannedChunk (hpoll : polled s.trace = true) (h : Tracks s) (h1 : 1 ≤ s.trsp.count.toNat)
    (h8 : s.trsp.count.toNat ≤ 8) : readLine false (scannedChunk s).trace = true := by
  have hdata : (s.trsp.rdata.first s.trsp.count.toNat).isEmpty = false := by
    rw [List.isEmpty_eq_false_iff, ← List.length_pos_iff, first_length _ _ h8]
    exact h1
  exact readLine_read.2 ⟨h.1.symm, hdata, hpoll⟩

end Reader

/-! ## Every step keeps the trace in shape (O45) -/

section KeepTrace
variable {s t : State}

/-- R130: what `Inv` and the trace say while WRITE is outstanding. -/
theorem TraceOk.writing (ht : TraceOk s) (hi : Inv s) (hp : s.ph = .sWrite) :
    s.opKind = .send ∧ s.trace = [.flushWrite, .send s.opCode s.opP0 s.opP1 s.opP2] ∧
      s.txf = buildFrame s.opCode s.opP0 s.opP1 s.opP2 := by
  have hk := hi.send_phase (.inr hp)
  obtain ⟨-, -, hframe⟩ := hi.write_request hp
  exact ⟨hk, (traceOk_sWrite hk hp).1 ht, hframe⟩

/-- R143, R145, R166: what `Inv` and the trace say while REMAINING_READ is outstanding. -/
theorem TraceOk.polling (ht : TraceOk s) (hi : Inv s) (hp : s.ph = .rAvail) :
    s.opKind = .rdack ∧ iterations s.trace = true ∧ Tracks s ∧ 0 < budgetAfter s.trace ∧
      threshold s = thresholdAfter s.trace := by
  obtain ⟨hk, hs⟩ := hi.reader_phase (.inl (by rw [hp]; rfl))
  obtain ⟨hit, htr⟩ := (traceOk_rAvail hk hp).1 ht
  exact ⟨hk, hit, htr, htr.budgetAfter_pos (hi.budget_pos (.inl hp)), htr.threshold_eq hs⟩

/-- R147, R166: what `Inv` and the trace say while READ is outstanding. -/
theorem TraceOk.reading (ht : TraceOk s) (hi : Inv s) (hp : s.ph = .rRead) :
    s.opKind = .rdack ∧ polled s.trace = true ∧ Tracks s := by
  obtain ⟨hk, -⟩ := hi.reader_phase (.inl (by rw [hp]; rfl))
  exact ⟨hk, (traceOk_rRead hk hp).1 ht⟩

/-- R208, R166: what `Inv` and the trace say while FLUSH_READ is outstanding. -/
theorem TraceOk.flushing (ht : TraceOk s) (hi : Inv s) (hp : s.ph = .rFlushR) :
    s.opKind = .rdack ∧ flushable s.perr s.trace = true ∧ (s.perr = .ackTimeout ∨ s.perr = .ackChecksumMismatch) := by
  obtain ⟨hk, -⟩ := hi.reader_phase (.inr hp)
  exact ⟨hk, (traceOk_rFlushR hk hp).1 ht, hi.perr_kind.resolve_left (hi.flush_pending_kind hp)⟩

/-- Every move of the block keeps the trace in shape: a start opens a trace, and every answer adds its line. -/
theorem BlockMove.traceOk (hi : Inv s) (ht : TraceOk s) (h : BlockMove s t) : TraceOk t := by
  cases h with
  | sendStart code p0 p1 p2 => exact Iff.mpr (traceOk_sFlushW rfl rfl) rfl
  | rdackStart timeout =>
    have hhead : AtHead (initReader timeout (startFlags .rdack (.rdack timeout) s)) :=
      ⟨rfl, rfl, by simp [seenMarker]⟩
    exact hhead.loopHead rfl
  | flushWriteErr hp =>
    have hk := hi.send_phase (.inl hp)
    have htr := (traceOk_sFlushW hk hp).1 ht
    exact Iff.mpr (traceOk_send (by simp [hk])) (by simp [sendTrace, htr])
  | flushWriteOk hp =>
    have hk := hi.send_phase (.inl hp)
    have htr := (traceOk_sFlushW hk hp).1 ht
    exact Iff.mpr (traceOk_sWrite (by simp [hk]) rfl) (by simp [htr])
  | writeErr hp =>
    obtain ⟨hk, htr, hframe⟩ := ht.writing hi hp
    exact Iff.mpr (traceOk_send (by simp [hk])) (by simp [sendTrace, htr, ← hframe])
  | writeOk hp =>
    obtain ⟨hk, htr, hframe⟩ := ht.writing hi hp
    exact Iff.mpr (traceOk_send (by simp [hk])) (by simp [sendTrace, htr, ← hframe])
  | pollErr hp =>
    obtain ⟨hk, hit, -, hpos, -⟩ := ht.polling hi hp
    exact Iff.mpr (traceOk_rdackIdle (by simp [hk]) rfl) (by simp [rdackDone, hit, hpos])
  | pollBelow hp _ _ hlt =>
    obtain ⟨hk, hit, htr, hpos, hthr⟩ := ht.polling hi hp
    rw [hthr] at hlt
    exact traceOk_consumeQuantum hk (iterations_pollBelow hlt hpos hit) htr
  | pollMet hp _ _ hle =>
    obtain ⟨hk, hit, htr, hpos, hthr⟩ := ht.polling hi hp
    rw [hthr] at hle
    exact Iff.mpr (traceOk_rRead (by simp [issueRead, hk]) rfl) ⟨polled_remainingRead.2 ⟨hle, hpos, hit⟩, htr⟩
  | readErr hp =>
    obtain ⟨hk, hpoll, hbudget, -⟩ := ht.reading hi hp
    exact Iff.mpr (traceOk_rdackIdle (by simp [hk]) rfl) (by simp [rdackDone, hpoll, hbudget])
  | readEmpty hp =>
    obtain ⟨hk, hpoll, hbudget, -⟩ := ht.reading hi hp
    have hread : readLine true (.read 8 s.budget [] :: s.trace) = true := readLine_read.2 ⟨hbudget.symm, rfl, hpoll⟩
    exact Iff.mpr (traceOk_rFlushR (by simp [hk]) rfl) (Bool.or_eq_true_iff.2 (.inl hread))
  | readChunk hp _ _ h1 h8 =>
    obtain ⟨hk, hpoll, htr⟩ := ht.reading hi hp
    exact traceOk_afterScan hk (readLine_scannedChunk hpoll htr h1 h8) (tracks_scannedChunk hi hp htr)
  | flushReadErr hp =>
    obtain ⟨hk, hflush, hperr | hperr⟩ := ht.flushing hi hp <;> rw [hperr] at hflush <;>
      exact Iff.mpr (traceOk_rdackIdle (by simp [hk]) rfl) (by simp [rdackDone, hflush])
  | flushReadOk hp =>
    obtain ⟨hk, hflush, hperr | hperr⟩ := ht.flushing hi hp <;> rw [hperr] at hflush <;>
      exact Iff.mpr (traceOk_rdackIdle (by simp [hk]) rfl) (by simp [rdackDone, hperr, hflush])
  | delayDone hp =>
    obtain ⟨hk, -⟩ := hi.reader_phase (.inl (by rw [hp]; rfl))
    have hhead : AtHead (record (.delay 100) (takeDelay s)) := (traceOk_rDelay hk hp).1 ht
    exact hhead.loopHead hk

/-- R230: a reset edge clears the trace and the kind of operation. -/
theorem traceOk_resetEdge (s : State) : TraceOk (resetEdge s) := by
  simp [TraceOk]

/-- R5: of the other agents' turns only a reset edge writes what `TraceOk` speaks of. -/
theorem TraceOk.applyEnv (ht : TraceOk s) (e : EnvStep) : TraceOk (applyEnv e s) := by
  cases e with
  | rst => exact traceOk_resetEdge s
  | host | rx | sent => exact ht
  | answer | answerPlain | delayDone =>
    simp only [Machine.applyEnv]
    split <;> exact ht

theorem TraceOk.moveEnv (ht : TraceOk s) : TraceOk (moveEnv s) := by
  obtain ⟨-, h⟩ | ⟨e, rest, -, h⟩ := moveEnv_cases s <;> rw [h]
  · exact ht
  · have hrest : TraceOk { s with env := rest } := ht
    exact hrest.applyEnv e

end KeepTrace

/-- Settles O45: the block's moves keep the trace in shape (`BlockMove.traceOk`), and so do the other agents' turns
(`TraceOk.moveEnv`). -/
theorem stepKeepsTraceShape : Obligations.StepKeepsTraceShape := by
  intro s t hi ht h
  obtain hm | ⟨rfl, -⟩ := step_moves hi h
  · exact hm.traceOk hi ht
  · exact ht.moveEnv

/-! ## What SEND writes (O7, O9 to O12) -/

/-- R137: the reader's elements and `rxq` are written by the moves of an RDACK only. -/
theorem BlockMove.reader {s t : State} (hk : s.opKind = .send) (hp : s.ph = .sFlushW ∨ s.ph = .sWrite)
    (hb : s.busy = true) (h : BlockMove s t) : sameReader s t ∧ t.rxq = s.rxq := by
  cases h with
  | sendStart _ _ _ _ idle => simp [hb] at idle
  | rdackStart _ idle => simp [hb] at idle
  | flushWriteErr | writeErr => simp [sameReader, hk]
  | flushWriteOk | writeOk => simp [sameReader]
  | pollErr ph | pollBelow ph | pollMet ph | readErr ph | readEmpty ph | readChunk ph | flushReadErr ph | flushReadOk ph
  | delayDone ph => simp [ph] at hp

/-- Settles O12: a step with something presented inside a SEND is one of the sender's moves. -/
theorem sendStepsLeaveTheReaderAlone : Obligations.SendStepsLeaveTheReaderAlone := by
  intro s t hi hp hpend h
  have hb : s.busy = true := hi.busy_iff.2 (by obtain e | e := hp <;> simp [e])
  exact (step_blockMove hi hb hpend h).reader (hi.send_phase hp) hp hb

/-- Settles O7: SEND does not name its timeout operand. -/
theorem sendIgnoresTimeout : Obligations.SendIgnoresTimeout := fun _ _ _ _ _ _ _ => rfl

/-- Settles O9: the answered FLUSH_WRITE is `execFlushWrite_ok`, and the frame is `buildFrame_bytes`. -/
theorem flushWriteOkBuildsAndWrites : Obligations.FlushWriteOkBuildsAndWrites := by
  rintro n s ⟨hr, he, -⟩ hp
  refine ⟨_, (execFlushWrite_ok hr he).trans (by rw [if_pos hp]), ?_⟩
  simp [requests, sameStatus, sameReader, sameOutside, buildFrame_bytes]

/-- Settles O10: a count of at most 8 is in range, so the answered WRITE is `execWrite_ok`. -/
theorem writeOkCompletesSend : Obligations.WriteOkCompletesSend := by
  rintro data n s ⟨hr, he, rfl⟩ hn hp
  refine ⟨_, (execWrite_ok 8 data hr he ((countInRange_eight s).2 hn)).trans (by rw [if_pos hp]), ?_⟩
  simp [endedWith, portsClosed, sameReader, sameOutside, Buf.first]

/-- Settles O11: both waiting phases end in `failTransport`, which leaves `rs` as it is for a SEND. -/
theorem sendTransportFailure : Obligations.SendTransportFailure := by
  rintro i e s ⟨hr, he, rfl⟩ hk (⟨rfl, hp⟩ | ⟨⟨data, rfl⟩, hp⟩)
  · refine ⟨_, (execFlushWrite_err hr he).trans (by rw [if_pos hp]), ?_⟩
    simp [endedWith, portsClosed, sameSender, sameReader, sameOutside, hk]
  · refine ⟨_, (execWrite_err 8 data hr he).trans (by rw [if_pos hp]), ?_⟩
    simp [endedWith, portsClosed, sameSender, sameReader, sameOutside, hk]

end Sys2Proof.Machine

namespace Sys2Proof.Machine

/-! ## The loop's lines counted (O46, O47)

An RDACK's trace before its flush is made of the loop's lines; every poll, READ and delay in it is counted once, against
the quanta consumed (`quanta`), and a quantum is consumed only while budget is left. -/

/-- R166: a trace with so many polls, READs and delays, no flush and nothing of the write side. -/
structure LoopLines (polls reads delays : Nat) (tr : List TraceLine) : Prop where
  polls_eq : linesOf TraceLine.isPoll tr = polls
  reads_eq : linesOf TraceLine.isRead tr = reads
  delays_eq : linesOf TraceLine.isDelay tr = delays
  noFlush : linesOf TraceLine.isFlushRead tr = 0
  noWrite : linesOf TraceLine.isWriteSide tr = 0

/-- R167, R192: a trace with no flush and nothing of the write side, and at most `ceil(timeout / 100)` lines of each
operation of the loop. -/
structure LoopBounded (tr : List TraceLine) : Prop where
  polls_le : linesOf TraceLine.isPoll tr ≤ ceilQuanta (startTimeout tr)
  reads_le : linesOf TraceLine.isRead tr ≤ ceilQuanta (startTimeout tr)
  delays_le : linesOf TraceLine.isDelay tr ≤ ceilQuanta (startTimeout tr)
  noFlush : linesOf TraceLine.isFlushRead tr = 0
  noWrite : linesOf TraceLine.isWriteSide tr = 0

/-- R164, R208: the trace of an operation that ended with `kind` is a flush, answered or failed, after the loop's lines,
and `kind` is no success. -/
def FlushesLast (kind : ErrKind) (tr : List TraceLine) : Prop :=
  ∃ l rest, tr = l :: rest ∧ (l = .flushRead ∨ ∃ e, l = .failed .flushRead e) ∧ LoopBounded rest ∧ kind ≠ .none

theorem linesOf_cons (p : TraceLine → Bool) (l : TraceLine) (tr : List TraceLine) :
    linesOf p (l :: tr) = linesOf p tr + (p l).toNat := by
  rw [linesOf, List.countP_cons]
  cases p l <;> rfl

section LoopCounts
variable {tr : List TraceLine}

/-- A line of the loop adds one to the count of its own operation. -/
theorem LoopLines.cons {p r d : Nat} (h : LoopLines p r d tr) (l : TraceLine) (hf : l.isFlushRead = false)
    (hw : l.isWriteSide = false) :
    LoopLines (p + l.isPoll.toNat) (r + l.isRead.toNat) (d + l.isDelay.toNat) (l :: tr) where
  polls_eq := by rw [linesOf_cons, h.polls_eq]
  reads_eq := by rw [linesOf_cons, h.reads_eq]
  delays_eq := by rw [linesOf_cons, h.delays_eq]
  noFlush := by rw [linesOf_cons, h.noFlush, hf]; rfl
  noWrite := by rw [linesOf_cons, h.noWrite, hw]; rfl

theorem LoopLines.bounded {p r d : Nat} (h : LoopLines p r d tr) (hp : p ≤ ceilQuanta (startTimeout tr))
    (hr : r ≤ ceilQuanta (startTimeout tr)) (hd : d ≤ ceilQuanta (startTimeout tr)) : LoopBounded tr where
  polls_le := h.polls_eq.trans_le hp
  reads_le := h.reads_eq.trans_le hr
  delays_le := h.delays_eq.trans_le hd
  noFlush := h.noFlush
  noWrite := h.noWrite

/-- R143: while budget is left, one more quantum is within the bound. -/
theorem quanta_lt_ceilQuanta (h : 0 < budgetAfter tr) : quanta tr < ceilQuanta (startTimeout tr) := by
  unfold budgetAfter at h
  unfold ceilQuanta
  omega

/-- R166, R167: every iteration has one poll, one delay and at most one READ, and budget left when it begins. -/
theorem iterations_lines (h : iterations tr = true) :
    quanta tr ≤ ceilQuanta (startTimeout tr) ∧ ∃ reads ≤ quanta tr, LoopLines (quanta tr) reads (quanta tr) tr := by
  induction tr using iterations.induct with
  | case1 timeout => exact ⟨Nat.zero_le _, 0, Nat.le_refl 0, rfl, rfl, rfl, rfl, rfl⟩
  | case2 ms c rest ih =>
    simp only [iterations, Bool.and_eq_true, decide_eq_true_eq] at h
    obtain ⟨⟨-, hb⟩, hit⟩ := h
    obtain ⟨-, r, hr, hl⟩ := ih hit
    exact ⟨quanta_lt_ceilQuanta hb, r, Nat.le_succ_of_le hr,
      (hl.cons (.remainingRead c) rfl rfl).cons (.delay ms) rfl rfl⟩
  | case3 ms len time data c rest ih =>
    simp only [iterations, Bool.and_eq_true, decide_eq_true_eq] at h
    obtain ⟨⟨-, hb⟩, hit⟩ := h
    obtain ⟨-, r, hr, hl⟩ := ih hit
    exact ⟨quanta_lt_ceilQuanta hb, r + 1, Nat.succ_le_succ hr,
      ((hl.cons (.remainingRead c) rfl rfl).cons (.read len time data) rfl rfl).cons (.delay ms) rfl rfl⟩
  | case4 => simp [iterations] at h

/-- R145: a poll that met the threshold is one more than the quanta consumed, and within the bound. -/
theorem polled_lines (h : polled tr = true) :
    quanta tr < ceilQuanta (startTimeout tr) ∧
      ∃ reads ≤ quanta tr, LoopLines (quanta tr + 1) reads (quanta tr) tr := by
  obtain ⟨c, rest, rfl, -, hb, hit⟩ := polled_cases h
  obtain ⟨-, r, hr, hl⟩ := iterations_lines hit
  exact ⟨quanta_lt_ceilQuanta hb, r, hr, hl.cons (.remainingRead c) rfl rfl⟩

/-- R147: a READ's line stands after the poll that met the threshold. -/
theorem readLine_cases {empty : Bool} (h : readLine empty tr = true) :
    ∃ len time data rest, tr = .read len time data :: rest ∧ polled rest = true := by
  unfold readLine at h
  split at h
  · next len time data rest => exact ⟨len, time, data, rest, rfl, (Bool.and_eq_true_iff.1 h).2⟩
  · cases h

theorem loopBounded_iterations (h : iterations tr = true) : LoopBounded tr := by
  obtain ⟨hq, r, hr, hl⟩ := iterations_lines h
  exact hl.bounded hq (hr.trans hq) hq

/-- A poll within the budget, whatever it answers, is within the bound. -/
theorem loopBounded_poll {l : TraceLine} (hl : (∃ c, l = .remainingRead c) ∨ ∃ e, l = .failed .remainingRead e)
    (hb : 0 < budgetAfter tr) (h : iterations tr = true) : LoopBounded (l :: tr) := by
  obtain ⟨-, r, hr, hlines⟩ := iterations_lines h
  have hq := quanta_lt_ceilQuanta hb
  obtain ⟨c, rfl⟩ | ⟨e, rfl⟩ := hl <;>
    exact (hlines.cons _ rfl rfl).bounded hq (hr.trans hq.le) hq.le

/-- The READ after a poll, whatever it answers, is within the bound. -/
theorem loopBounded_read {l : TraceLine}
    (hl : (∃ len time data, l = .read len time data) ∨ ∃ len time e, l = .failed (.read len time) e)
    (h : polled tr = true) : LoopBounded (l :: tr) := by
  obtain ⟨hq, r, hr, hlines⟩ := polled_lines h
  obtain ⟨len, time, data, rfl⟩ | ⟨len, time, e, rfl⟩ := hl <;>
    exact (hlines.cons _ rfl rfl).bounded hq ((Nat.succ_le_succ hr).trans hq) hq.le

theorem loopBounded_polled (h : polled tr = true) : LoopBounded tr := by
  obtain ⟨c, rest, rfl, -, hb, hit⟩ := polled_cases h
  exact loopBounded_poll (.inl ⟨c, rfl⟩) hb hit

theorem loopBounded_readLine {empty : Bool} (h : readLine empty tr = true) : LoopBounded tr := by
  obtain ⟨len, time, data, rest, rfl, hpoll⟩ := readLine_cases h
  exact loopBounded_read (.inl ⟨len, time, data, rfl⟩) hpoll

theorem loopBounded_flushable {kind : ErrKind} (h : flushable kind tr = true) : LoopBounded tr := by
  cases kind with
  | ackTimeout =>
    obtain h | h := Bool.or_eq_true_iff.1 h
    · exact loopBounded_readLine h
    · exact loopBounded_iterations (Bool.and_eq_true_iff.1 h).1
  | ackChecksumMismatch => exact loopBounded_readLine h
  | none | transportFailure | ackMissingData => cases h

/-- R166, R192: the flush of a finished RDACK stands last, once, and only where the operation failed. -/
theorem rdackDone_bounded {kind : ErrKind} (h : rdackDone kind tr = true) :
    LoopBounded tr ∨ FlushesLast kind tr := by
  unfold rdackDone at h
  split at h
  · exact .inl (loopBounded_readLine h)
  · exact .inr ⟨_, _, rfl, .inl rfl, loopBounded_flushable h, by simp⟩
  · exact .inr ⟨_, _, rfl, .inl rfl, loopBounded_flushable h, by simp⟩
  · obtain ⟨hit, hb⟩ := Bool.and_eq_true_iff.1 h
    exact .inl (loopBounded_poll (.inr ⟨_, rfl⟩) (of_decide_eq_true hb) hit)
  · exact .inl (loopBounded_read (.inr ⟨_, _, _, rfl⟩) (Bool.and_eq_true_iff.1 h).2)
  · refine .inr ⟨_, _, rfl, .inr ⟨_, rfl⟩, ?_, by simp⟩
    obtain h | h := Bool.or_eq_true_iff.1 h <;> exact loopBounded_flushable h
  · cases h

end LoopCounts

section RdackTrace
variable {s : State}

/-- R191: a delay that is requested has no line yet. -/
theorem LoopBounded.of_delay {ms : Millis} {tr : List TraceLine} (h : LoopBounded (.delay ms :: tr)) :
    LoopBounded tr where
  polls_le := h.polls_le
  reads_le := h.reads_le
  delays_le := by
    have hd := h.delays_le
    rw [linesOf_cons] at hd
    exact (Nat.le_add_right _ _).trans hd
  noFlush := h.noFlush
  noWrite := h.noWrite

/-- R166: in every phase an RDACK's trace is the loop's, and once it has ended a flush may stand after it. -/
theorem TraceOk.rdack_bounded (ht : TraceOk s) (hk : s.opKind = .rdack) :
    LoopBounded s.trace ∨ (s.ph = .idle ∧ FlushesLast s.err s.trace) := by
  obtain ⟨htr, -⟩ := (traceOk_rdack hk).1 ht
  cases hp : s.ph <;> simp only [rdackTrace, hp, Bool.and_eq_true, Bool.false_eq_true] at htr
  case idle => exact (rdackDone_bounded htr).imp_right fun h => ⟨rfl, h⟩
  case rAvail => exact .inl (loopBounded_iterations htr.1)
  case rDelay => exact .inl ((loopBounded_iterations htr.1).of_delay)
  case rRead => exact .inl (loopBounded_polled htr.1)
  case rFlushR => exact .inl (loopBounded_flushable htr)

end RdackTrace

/-- Settles O46: the loop's lines are bounded (`LoopBounded`), and at most a flush stands after them
(`TraceOk.rdack_bounded`). -/
theorem rdackTransactionBounds : Obligations.RdackTransactionBounds := by
  intro s _ ht hk
  obtain h | ⟨-, l, rest, e, hl, h, herr⟩ := ht.rdack_bounded hk
  · exact ⟨h.polls_le, h.reads_le, h.delays_le, h.noFlush.trans_le (Nat.zero_le 1), h.noWrite, fun _ _ => h.noFlush⟩
  · have hflush : linesOf TraceLine.isFlushRead (l :: rest) ≤ 1 := by
      rw [linesOf_cons, h.noFlush, Nat.zero_add]
      exact Bool.toNat_le _
    rw [e]
    obtain rfl | ⟨_, rfl⟩ := hl <;>
      exact ⟨h.polls_le, h.reads_le, h.delays_le, hflush, h.noWrite, fun _ hn => absurd hn herr⟩

/-- Settles O47: such a trace is the flush after complete iterations, each with one poll and one delay
(`iterations_lines`), and the budget after them is 0. -/
theorem exhaustedBudgetIterations : Obligations.ExhaustedBudgetIterations := by
  intro s rest _ ht hk hp herr htr hread
  have hdone := (traceOk_rdackIdle hk hp).1 ht
  rw [herr, htr] at hdone
  obtain hread' | hexh := Bool.or_eq_true_iff.1 hdone
  · obtain ⟨len, time, data, more, e, -⟩ := readLine_cases hread'
    exact absurd e (hread len time data more)
  · obtain ⟨hit, hb⟩ := Bool.and_eq_true_iff.1 hexh
    obtain ⟨hle, r, -, hl⟩ := iterations_lines hit
    have hq : quanta rest = ceilQuanta (startTimeout rest) := by
      have hb := of_decide_eq_true hb
      unfold budgetAfter at hb
      unfold ceilQuanta at hle ⊢
      omega
    rw [htr, linesOf_cons, linesOf_cons, hl.polls_eq, hl.delays_eq]
    exact ⟨hq, hq⟩

end Sys2Proof.Machine

namespace Sys2Proof.Machine

/-! ## Termination and the reader's state (O48, O49) -/

/-- R146, R167: with budget left a consumed quantum is one iteration less. -/
theorem ceilQuanta_satsub {b : Millis} (h : b ≠ 0) : ceilQuanta (satsub b 100).toNat + 1 = ceilQuanta b.toNat := by
  have hpos : b.toNat ≠ 0 := fun h0 => h (BitVec.eq_of_toNat_eq h0)
  have h100 : (100 : Millis).toNat = 100 := rfl
  rw [satsub_toNat, h100]
  unfold ceilQuanta
  omega

/-- R143: past the loop head there is an iteration to come. -/
theorem ceilQuanta_pos {b : Millis} (h : b ≠ 0) : 0 < ceilQuanta b.toNat := by
  have := ceilQuanta_satsub h
  omega

section Progress
variable {s t : State}

theorem remaining_idle (hp : s.ph = .idle) : remaining s = 0 := by simp [remaining, hp]

theorem remaining_rAvail (hp : s.ph = .rAvail) : remaining s = 3 * ceilQuanta s.budget.toNat + 1 := by
  simp [remaining, hp]

theorem remaining_rRead (hp : s.ph = .rRead) : remaining s = 3 * ceilQuanta s.budget.toNat := by
  simp [remaining, hp]

theorem remaining_rDelay (hp : s.ph = .rDelay) : remaining s = 3 * ceilQuanta s.budget.toNat + 2 := by
  simp [remaining, hp]

theorem remaining_rFlushR (hp : s.ph = .rFlushR) : remaining s = 1 := by simp [remaining, hp]

/-- R146, R155: the requested delay and what follows it are less than the iteration they end. -/
theorem remaining_consumeQuantum (h : s.budget ≠ 0) :
    remaining (consumeQuantum s) < 3 * ceilQuanta s.budget.toNat := by
  have hq := ceilQuanta_satsub h
  rw [remaining_rDelay rfl, consumeQuantum_budget, params_pollQuantumMs]
  omega

/-- R143, R160: the loop head leaves a poll and what follows it, or the flush. -/
theorem remaining_loopHead (s : State) : remaining (loopHead s) ≤ 3 * ceilQuanta s.budget.toNat + 1 := by
  obtain ⟨-, e⟩ | ⟨-, e⟩ := loopHead_cases s <;> rw [e]
  · exact Nat.succ_le_succ (Nat.zero_le _)
  · exact (remaining_rAvail rfl).le

/-- R155, R158, R159: the end of a scan leaves less than the READ it ends. -/
theorem remaining_afterScan (h : s.budget ≠ 0) : remaining (afterScan s) < 3 * ceilQuanta s.budget.toNat := by
  have hpos := ceilQuanta_pos h
  obtain ⟨-, e⟩ | ⟨-, -, e⟩ | ⟨-, -, e⟩ := afterScan_cases s <;> rw [e]
  · exact remaining_consumeQuantum (s := resetScratch s) h
  · rw [remaining_idle rfl]
    omega
  · rw [remaining_rFlushR rfl]
    omega

/-- R252: a move inside an operation leaves less to come. -/
theorem BlockMove.remaining_lt (hi : Inv s) (hb : s.busy = true) (h : BlockMove s t) : remaining t < remaining s := by
  cases h with
  | sendStart _ _ _ _ idle => simp [hb] at idle
  | rdackStart _ idle => simp [hb] at idle
  | flushWriteErr ph | flushWriteOk ph | writeErr ph | writeOk ph | flushReadErr ph | flushReadOk ph =>
    simp [remaining, ph]
  | pollErr ph =>
    rw [remaining_rAvail ph, remaining_idle rfl]
    exact Nat.succ_pos _
  | pollBelow ph =>
    rw [remaining_rAvail ph]
    exact Nat.lt_succ_of_lt (remaining_consumeQuantum (s := record _ (takeAnswer s)) (hi.budget_pos (.inl ph)))
  | pollMet ph =>
    rw [remaining_rAvail ph, remaining_rRead rfl]
    exact Nat.lt_succ_self _
  | readErr ph =>
    have hpos := ceilQuanta_pos (hi.budget_pos (.inr ph))
    rw [remaining_rRead ph, remaining_idle rfl]
    omega
  | readEmpty ph =>
    have hpos := ceilQuanta_pos (hi.budget_pos (.inr ph))
    rw [remaining_rRead ph, remaining_rFlushR rfl]
    omega
  | readChunk ph =>
    rw [remaining_rRead ph]
    exact remaining_afterScan (s := scannedChunk s) (hi.budget_pos (.inr ph))
  | delayDone ph =>
    rw [remaining_rDelay ph]
    exact Nat.lt_succ_of_le (remaining_loopHead (record (.delay 100) (takeDelay s)))

/-- R155, R158, R159: the end of a scan keeps `rs` or validates the message. -/
theorem afterScan_rs (s : State) : (afterScan s).rs = s.rs ∨ (afterScan s).rs = .validated := by
  obtain ⟨-, e⟩ | ⟨-, -, e⟩ | ⟨-, -, e⟩ := afterScan_cases s <;> simp [e]

/-- R27, R162: outside an operation the reader does not scan. -/
theorem Inv.rs_of_not_busy (hi : Inv s) (hb : s.busy = false) : s.rs = .idle ∨ s.rs = .validated ∨ s.rs = .failed := by
  have hn : ¬ (s.rs = .hunting ∨ s.rs = .accumulating) := fun hs => by
    simpa [(hi.idle_ports hb).1, Phase.inLoop] using hi.scanning_phase hs
  cases hr : s.rs <;> simp [hr] at hn ⊢

@[simp] theorem loopHead_rs (s : State) : (loopHead s).rs = s.rs := by
  obtain ⟨-, e⟩ | ⟨-, e⟩ := loopHead_cases s <;> simp [e]

@[simp] theorem loopHead_opKind (s : State) : (loopHead s).opKind = s.opKind := by
  obtain ⟨-, e⟩ | ⟨-, e⟩ := loopHead_cases s <;> simp [e]

/-- R151, R152, R162: a scan ends in the state it found or in ACCUMULATING. -/
theorem scanBytes_rs (bytes : List Byte) (hs : s.rs = .hunting ∨ s.rs = .accumulating)
    (h0 : s.rs = .hunting → s.accLen = 0) :
    (scanBytes bytes s).rs = s.rs ∨ (scanBytes bytes s).rs = .accumulating := by
  obtain hr | hr := hs
  · by_cases hm : fromMarker bytes = []
    · rw [scanBytes_fromMarker bytes hr, hm]
      exact .inl rfl
    · exact .inr (collected_fromMarker bytes hr (h0 hr) hm).1
  · exact .inr (scanBytes_accumulating bytes hr)

/-- R162: the rows of the table that a scanned chunk runs, the marker's and the scan end's. -/
theorem scannedChunk_rs_cases (hi : Inv s) (hp : s.ph = .rRead) {r : ReaderState}
    (h : r = (scannedChunk s).rs ∨ r = .validated) :
    r = s.rs ∨ (s.rs = .hunting ∧ (r = .accumulating ∨ r = .validated)) ∨ (s.rs = .accumulating ∧ r = .validated) := by
  obtain ⟨-, hs⟩ := hi.reader_phase (.inl (by rw [hp]; rfl))
  obtain rfl | rfl := h
  · obtain e | e : (scannedChunk s).rs = s.rs ∨ (scannedChunk s).rs = .accumulating :=
      scanBytes_rs _ hs hi.hunting_empty
    · exact .inl e
    · obtain hr | hr := hs <;> simp [e, hr]
  · obtain hr | hr := hs <;> simp [hr]

/-- R162: the rows of the table that the block runs. -/
theorem BlockMove.rs_cases (hi : Inv s) (h : BlockMove s t) :
    t.rs = s.rs ∨
      ((s.rs = .idle ∨ s.rs = .validated ∨ s.rs = .failed) ∧ s.busy = false ∧ t.rs = .hunting ∧ t.opKind = .rdack) ∨
      (s.rs = .hunting ∧ s.ph = .rRead ∧ (t.rs = .accumulating ∨ t.rs = .validated)) ∨
      (s.rs = .accumulating ∧ s.ph = .rRead ∧ t.rs = .validated) ∨
      ((s.rs = .hunting ∨ s.rs = .accumulating) ∧ s.busy = true ∧ t.rs = .failed) := by
  have hfail : s.ph.inLoop = true ∨ s.ph = .rFlushR →
      s.opKind = .rdack ∧ (s.rs = .hunting ∨ s.rs = .accumulating) ∧ s.busy = true := fun hp =>
    have ⟨hk, hs⟩ := hi.reader_phase hp
    ⟨hk, hs, hi.busy_iff.2 fun e => by simp [e, Phase.inLoop] at hp⟩
  cases h with
  | sendStart => exact .inl rfl
  | rdackStart _ idle => exact .inr (.inl ⟨hi.rs_of_not_busy idle, idle, by simp, by simp⟩)
  | flushWriteErr ph => exact .inl (by simp [hi.send_phase (.inl ph)])
  | writeErr ph => exact .inl (by simp [hi.send_phase (.inr ph)])
  | pollErr ph | readErr ph | flushReadErr ph | flushReadOk ph =>
    obtain ⟨hk, hs, hb⟩ := hfail (by simp [ph, Phase.inLoop])
    exact .inr (.inr (.inr (.inr ⟨hs, hb, by simp [hk]⟩)))
  | readChunk ph =>
    obtain h | ⟨hr, h⟩ | ⟨hr, h⟩ := scannedChunk_rs_cases hi ph (afterScan_rs (scannedChunk s))
    · exact .inl h
    · exact .inr (.inr (.inl ⟨hr, ph, h⟩))
    · exact .inr (.inr (.inr (.inl ⟨hr, ph, h⟩)))
  | flushWriteOk | writeOk | pollBelow | pollMet | readEmpty => exact .inl rfl
  | delayDone => exact .inl (by simp)

end Progress

/-- Settles O48: inside an operation the step is a move of the block (`BlockMove.remaining_lt`), and a start ends at the
loop head (`remaining_loopHead`). -/
theorem operationsTerminate : Obligations.OperationsTerminate := by
  refine ⟨fun s t hi hb hp h => (step_blockMove hi hb hp h).remaining_lt hi hb, fun s t timeout hb h => ?_⟩
  have h := (execRdack_start timeout hb).symm.trans h
  cases h
  exact remaining_loopHead (initReader timeout (startFlags .rdack (.rdack timeout) s))

/-- Settles O49: the block runs the rows of the table (`BlockMove.rs_cases`); of the other agents only a reset writes
`rs`. -/
theorem readerStateTransitions : Obligations.ReaderStateTransitions := by
  intro s t hi h
  obtain hm | ⟨rfl, -⟩ := step_moves hi h
  · exact (hm.rs_cases hi).imp_right .inr
  · obtain ⟨rest, e⟩ | ⟨-, ⟨-, -, -, -, -, hrs, -⟩, -⟩ := moveEnv_reset_or_same s
    · rw [e]
      exact .inr (.inl ⟨rfl, rfl⟩)
    · exact .inl hrs

/-! ## The zero-byte READ (O60) -/

section ZeroByte
variable {s t : State}

/-- R145, R147: READ is issued by a poll that met the threshold and by nothing else. -/
theorem BlockMove.issues_read (h : BlockMove s t) (hp : t.ph = .rRead) :
    s.ph = .rAvail ∧ s.trsp.err = false ∧ threshold s ≤ s.trsp.count.toNat ∧ t.rxq = s.rxq := by
  cases h with
  | pollMet ph _ err le => exact ⟨ph, err, le, rfl⟩
  | rdackStart => obtain e | e := loopHead_ph (initReader _ (startFlags _ _ s)) <;> cases e.symm.trans hp
  | delayDone => obtain e | e := loopHead_ph (record _ (takeDelay s)) <;> cases e.symm.trans hp
  | readChunk => obtain e | e | e := afterScan_ph (scannedChunk s) <;> cases e.symm.trans hp
  | sendStart | flushWriteErr | flushWriteOk | writeErr | writeOk | pollErr | pollBelow | readErr | readEmpty
  | flushReadErr | flushReadOk => cases hp

/-- R145: both thresholds are at least 1. -/
theorem threshold_pos (s : State) : 1 ≤ threshold s := by
  unfold threshold
  split <;> decide

/-- R190, T_COUNT: the count that met the threshold is the number of bytes buffered. -/
theorem rxq_of_issuedRead (hi : Inv s) (hc : tCount s) (h : step s = .next t) (hs : s.ph ≠ .rRead)
    (hp : t.ph = .rRead) : 1 ≤ t.rxq.length := by
  obtain hm | ⟨rfl, -⟩ := step_moves hi h
  · obtain ⟨ph, he, hle, hq⟩ := hm.issues_read hp
    have hcount := hc (hi.req_op .remainingRead (by rw [ph]; rfl)) he
    rw [hq, ← hcount]
    exact (threshold_pos s).trans hle
  · obtain ⟨rest, e⟩ | ⟨hph, -⟩ := moveEnv_reset_or_same s
    · rw [e] at hp
      cases hp
    · exact absurd (hph.symm.trans hp) hs

/-- R62: while READ is outstanding another agent's turn takes nothing from `rxq` and leaves the request. -/
theorem moveEnv_rxq (hp : (moveEnv s).ph = .rRead) :
    s.rxq.length ≤ (moveEnv s).rxq.length ∧ (moveEnv s).treq = s.treq := by
  obtain ⟨-, h⟩ | ⟨e, rest, -, h⟩ := moveEnv_cases s <;> rw [h] at hp ⊢
  · exact ⟨Nat.le_refl _, rfl⟩
  · cases e
    case rst => cases hp
    case rx bytes => simp [applyEnv]
    case host | sent => exact ⟨Nat.le_refl _, rfl⟩
    case answer | answerPlain | delayDone =>
      simp only [applyEnv]
      split <;> exact ⟨Nat.le_refl _, rfl⟩

end ZeroByte

/-- Settles O60: READ is issued with a byte buffered (`rxq_of_issuedRead`), every move of the block leaves PH_R_READ,
and the other agents take nothing away (`moveEnv_rxq`). -/
theorem zeroByteReadUnreachable : Obligations.ZeroByteReadUnreachable := by
  refine ⟨fun s t hi hc h hs hp => rxq_of_issuedRead hi hc h hs hp, fun s t hi h hs hp => ?_, ?_⟩
  · obtain hm | ⟨rfl, -⟩ := step_moves hi h
    · have hph := (hm.issues_read hp).1
      rw [hs] at hph
      cases hph
    · exact moveEnv_rxq hp
  · rintro s t u hi hc h hs hp hn ⟨-, he, h0⟩
    have hop := (stepKeepsInv s t hi h).req_op .read (by rw [hp]; rfl)
    have hpos : 1 ≤ u.trsp.count.toNat := hn hop (rxq_of_issuedRead hi hc h hs hp) he
    omega

end Sys2Proof.Machine

namespace Sys2Proof.Machine

/-! ## The poll, the delay and the READ, answer by answer (O14 to O21, O23) -/

/-- Settles O14: the budget loaded is 0, so the loop head flushes. -/
theorem rdackZeroTimeoutFlushes : Obligations.RdackZeroTimeoutFlushes := by
  intro s hb
  refine ⟨_, execRdack_start 0 hb, ?_⟩
  obtain ⟨-, e⟩ | ⟨h0, -⟩ := loopHead_cases (initReader 0 (startFlags .rdack (.rdack 0) s))
  · rw [e]
    simp [requests, TOp.code, sameSender, sameQueues, sameOutside]
  · exact absurd rfl h0

/-- R9, R146, R155: the quantum leaves the budget, floored at 0. -/
theorem satsub_quantum (b : Millis) : satsub b 100#32 = if 100#32 ≤ b then b - 100#32 else 0#32 := rfl

/-- Settles O15: the test of `execRemainingRead_ok` holds, so a quantum is consumed. -/
theorem pollBelowThresholdDelays : Obligations.PollBelowThresholdDelays := by
  rintro n s ⟨hr, he, rfl⟩ hp hlt
  have hlt : s.trsp.count.toNat < threshold s := hlt
  refine ⟨_, (execRemainingRead_ok hr he).trans (by rw [if_pos hp, if_pos hlt]), ?_⟩
  simp [satsub_quantum, sameStatus, sameSender, sameQueues, sameOutside]

/-- Settles O16: the test of `execRemainingRead_ok` fails, so READ is issued. -/
theorem pollAtThresholdReads : Obligations.PollAtThresholdReads := by
  rintro n s ⟨hr, he, rfl⟩ hp hle
  have hle : ¬ s.trsp.count.toNat < threshold s := Nat.not_lt.2 hle
  refine ⟨_, (execRemainingRead_ok hr he).trans (by rw [if_pos hp, if_neg hle]), ?_⟩
  simp [requests, TOp.code, sameReader, sameStatus, sameSender, sameQueues, sameOutside]

/-- Settles O17: a delay that is done ends at the loop head, whose two cases are the two clauses. -/
theorem delayThenLoopHead : Obligations.DelayThenLoopHead := by
  intro ms s hd hp
  refine ⟨_, (execDelay_done ms hd).trans (by rw [if_pos hp]), ?_⟩
  obtain ⟨h0, e⟩ | ⟨h0, e⟩ := loopHead_cases (record (.delay ms) (takeDelay s)) <;> rw [e]
  · refine ⟨fun hn => absurd h0 hn, fun _ => ⟨rfl, ⟨rfl, rfl⟩, rfl⟩, ?_⟩
    simp [sameStatus, sameSender, sameQueues, sameOutside]
  · refine ⟨fun _ => ⟨rfl, ⟨rfl, rfl⟩, rfl⟩, fun hz => absurd hz h0, ?_⟩
    simp [sameStatus, sameSender, sameQueues, sameOutside]

/-- Settles O18: no byte is in range, and the reader does not store such a chunk. -/
theorem zeroByteReadFlushes : Obligations.ZeroByteReadFlushes := by
  rintro timeout s ⟨hr, he, h0⟩ hp
  have hn : countInRange 8 s = true := (countInRange_eight s).2 (by omega)
  refine ⟨_, (execRead_ok 8 timeout hr he hn).trans (by rw [if_pos hp, h0, onChunk, if_pos rfl]), ?_⟩
  simp [requests, TOp.code, sameStatus, sameSender, sameQueues, sameOutside]

/-- Settles O19: the chunk's scan is `execRead_chunk`, and its end `afterScan_short`. -/
theorem shortChunkDelays : Obligations.ShortChunkDelays := by
  rintro timeout n s ⟨hr, he, rfl⟩ h1 h8 hp hshort
  refine ⟨_, (execRead_chunk timeout hr he hp h1 h8).trans (congrArg _ (afterScan_short hshort)), ?_⟩
  simp [satsub_quantum, Buf.first, sameStatus, sameSender, sameOutside]

/-- R156, R157: a READ's verdict compares byte 6 of the scanned accumulator with the bytes of `verdictSource`. -/
theorem checksumOk_chunk_iff (n : Nat) (s m : State) (l : TraceLine) :
    checksumOk (withReader m.rs m.acc m.accLen (storeChunk n s.trsp.rdata (popRx n (record l (takeAnswer s))))) = true ↔
      m.acc.b6 = (verdictSource n s m).b1 ^^^ (verdictSource n s m).b2 ^^^ (verdictSource n s m).b3 ^^^
        (verdictSource n s m).b4 ^^^ (verdictSource n s m).b5 := by
  rw [checksumOk_iff]
  cases hc : s.ckSource <;> simp [checksumSource, verdictSource, hc]

/-- Settles O20: the verdict is `checksumOk_chunk_iff`, and the end of the scan `afterScan_good`. -/
theorem goodMessageIsDecoded : Obligations.GoodMessageIsDecoded := by
  rintro timeout n s m c ⟨hr, he, rfl⟩ h1 h8 hp rfl h7 rfl hsum
  refine ⟨_, (execRead_chunk timeout hr he hp h1 h8).trans
    (congrArg _ (afterScan_good h7 ((checksumOk_chunk_iff _ s _ _).2 hsum))), ?_⟩
  simp [decodeAck_bytes, endedWith, portsClosed, Buf.first, sameSender, sameOutside]

/-- Settles O21: the verdict is `checksumOk_chunk_iff`, and the end of the scan `afterScan_bad`. -/
theorem badMessageFlushes : Obligations.BadMessageFlushes := by
  rintro timeout n s m c ⟨hr, he, rfl⟩ h1 h8 hp rfl h7 rfl hsum
  refine ⟨_, (execRead_chunk timeout hr he hp h1 h8).trans
    (congrArg _ (afterScan_bad h7 (eq_false_of_ne_true (mt (checksumOk_chunk_iff _ s _ _).1 hsum)))), ?_⟩
  simp [requests, TOp.code, Buf.first, sameStatus, sameSender, sameOutside]

/-- Settles O23: both waiting phases end in `failTransport`, which marks an RDACK's reader FAILED. -/
theorem readerTransportFailure : Obligations.ReaderTransportFailure := by
  rintro i e s ⟨hr, he, rfl⟩ hk (⟨rfl, hp⟩ | ⟨⟨timeout, rfl⟩, hp⟩)
  · refine ⟨_, (execRemainingRead_err hr he).trans (by rw [if_pos hp]), ?_⟩
    simp [endedWith, portsClosed, sameSender, sameOutside, hk]
  · refine ⟨_, (execRead_err 8 timeout hr he).trans (by rw [if_pos hp]), ?_⟩
    simp [endedWith, portsClosed, sameSender, sameOutside, hk]

/-! ## The scan actions alone (O29 to O32) -/

/-- Settles O29: performed or not, the action drops the byte (`execHuntDiscard_eq`). -/
theorem huntDiscardDropsTheByte : Obligations.HuntDiscardDropsTheByte := fun b s _ _ => execHuntDiscard_eq b s

/-- Settles O30: with acc_len 0 a hunting reader is in the context of HUNT_SYNC. -/
theorem huntSyncStoresTheMarker : Obligations.HuntSyncStoresTheMarker := fun _ hr h0 =>
  execHuntSync_hunting (scanCtx_hunting (by simp [h0]) hr)

/-- A byte written below index 8 is read back. -/
theorem get_set_same (f : Buf) {i : Nat} (v : Byte) (h : i < 8) : (f.set i v).get i = v := by
  interval_cases i <;> rfl

/-- Settles O31: the action applies (`execAccAppend_room`) and writes the one index (`get_set_same`,
`get_set_of_ne`). -/
theorem accAppendStoresAtAccLen : Obligations.AccAppendStoresAtAccLen := by
  intro b s hr h8
  refine ⟨_, execAccAppend_room b hr h8, rfl, get_set_same s.acc b h8, fun j hj => get_set_of_ne s.acc b hj.symm, ?_⟩
  simp [sameStatus, sameSender, sameQueues, sameOutside]

/-- Settles O32: performed or not, the action drops the byte (`execSurplusDrop_eq`). -/
theorem surplusDropChangesNothing : Obligations.SurplusDropChangesNothing := fun b s _ => execSurplusDrop_eq b s

/-! ## One chunk completes a message (O22)

A chunk of at most 8 bytes that leaves 7 in the accumulator has the marker first or second: otherwise too few bytes
follow it. -/

section SingleChunk

/-- R149: of a chunk of 6 bytes or more, CKSUM reads the chunk's own bytes. -/
theorem cksum_overlay (f d : Buf) {n : Nat} (h : 6 ≤ n) : cksum (f.overlay d n) = cksum d := by
  rw [cksum_bytes, cksum_bytes]
  simp only [Buf.overlay, if_pos (show 1 < n by omega), if_pos (show 2 < n by omega), if_pos (show 3 < n by omega),
    if_pos (show 4 < n by omega), if_pos (show 5 < n by omega)]

theorem bytes_of_first_seven {f : Buf} {x0 x1 x2 x3 x4 x5 x6 : Byte} (h : f.first 7 = [x0, x1, x2, x3, x4, x5, x6]) :
    f.b1 = x1 ∧ f.b2 = x2 ∧ f.b3 = x3 ∧ f.b4 = x4 ∧ f.b5 = x5 := by
  simp only [Buf.first, Buf.toList, List.take_succ_cons, List.take_zero, List.cons.injEq, and_true] at h
  obtain ⟨-, h1, h2, h3, h4, h5, -⟩ := h
  exact ⟨h1, h2, h3, h4, h5⟩

theorem cksum_eq_of_first_seven {f g : Buf} (h : f.first 7 = g.first 7) : cksum f = cksum g := by
  obtain ⟨h1, h2, h3, h4, h5⟩ := bytes_of_first_seven h
  rw [cksum_bytes, cksum_bytes, h1, h2, h3, h4, h5]

theorem fromMarker_length_le (bytes : List Byte) : (fromMarker bytes).length ≤ bytes.length :=
  (List.dropWhile_suffix _).length_le

/-- R157: 7 bytes in the accumulator are 7 bytes of the chunk, from its first marker on. -/
theorem scanBytes_seven {s : State} {bytes : List Byte} (hr : s.rs = .hunting) (h0 : s.accLen = 0)
    (h7 : 7 ≤ (scanBytes bytes s).accLen) :
    7 ≤ (fromMarker bytes).length ∧ (scanBytes bytes s).acc.first 7 = (fromMarker bytes).take 7 := by
  by_cases hm : fromMarker bytes = []
  · rw [scanBytes_fromMarker bytes hr, hm, scanBytes_nil, h0] at h7
    omega
  · have hc := collected_fromMarker bytes hr h0 hm
    have hlen : 7 ≤ (fromMarker bytes).length := by
      obtain ⟨-, hl, -⟩ := hc
      omega
    exact ⟨hlen, (hc.seven hlen).2⟩

theorem first_eq_cons_cons (d : Buf) {n : Nat} (h : 2 ≤ n) :
    d.first n = d.b0 :: d.b1 :: [d.b2, d.b3, d.b4, d.b5, d.b6, d.b7].take (n - 2) := by
  obtain ⟨k, rfl⟩ := Nat.exists_eq_add_of_le' h
  rfl

/-- R157: where the marker stands in a chunk that completes a message. -/
theorem marker_position {d : Buf} {n : Nat} (h8 : n ≤ 8) (h7 : 7 ≤ (fromMarker (d.first n)).length) :
    7 ≤ n ∧ ((d.b0 = 0xF5 ∧ fromMarker (d.first n) = d.first n) ∨
      (d.b0 ≠ 0xF5 ∧ d.b1 = 0xF5 ∧ n = 8 ∧ fromMarker (d.first n) = [0xF5, d.b2, d.b3, d.b4, d.b5, d.b6, d.b7])) := by
  have hn : 7 ≤ n := h7.trans ((fromMarker_length_le _).trans (first_length d n h8).le)
  have hrest : ([d.b2, d.b3, d.b4, d.b5, d.b6, d.b7].take (n - 2)).length = n - 2 := by simp; omega
  rw [first_eq_cons_cons d (by omega)] at h7 ⊢
  refine ⟨hn, ?_⟩
  by_cases hb0 : d.b0 = 0xF5
  · exact .inl ⟨hb0, by rw [hb0, fromMarker_marker]⟩
  · rw [fromMarker_discard _ hb0] at h7 ⊢
    by_cases hb1 : d.b1 = 0xF5
    · rw [hb1, fromMarker_marker] at h7 ⊢
      rw [List.length_cons, hrest] at h7
      obtain rfl : n = 8 := by omega
      exact .inr ⟨hb0, rfl, rfl, rfl⟩
    · rw [fromMarker_discard _ hb1] at h7
      have hle := h7.trans (fromMarker_length_le _)
      omega

end SingleChunk

/-- Settles O22: the marker is first or second in the chunk (`marker_position`); the accumulator then holds the chunk's
bytes, or those one further on (`scanBytes_seven`), and `scr` the chunk's (`cksum_overlay`). -/
theorem lastChunkModeSingleChunkCases : Obligations.LastChunkModeSingleChunkCases := by
  rintro d n s m hr h0 - h1 h8 rfl h7
  rw [scanChunk_storeChunk n d s h8, withReader_accLen] at h7
  rw [scanChunk_storeChunk n d s h8, withReader_scr, withReader_acc, storeChunk_scr]
  obtain ⟨hlen, hacc⟩ := scanBytes_seven hr h0 h7
  obtain ⟨hn, ⟨hb0, hm⟩ | ⟨hb0, hb1, rfl, hm⟩⟩ := marker_position h8 hlen <;>
    rw [hm] at hacc <;> rw [cksum_overlay _ _ (by omega)]
  · have htake : (d.first n).take 7 = d.first 7 := by
      rw [Buf.first, Buf.first, List.take_take, Nat.min_eq_left hn]
    exact .inl ⟨hb0, (cksum_eq_of_first_seven (hacc.trans htake)).symm⟩
  · obtain ⟨a1, a2, a3, a4, -⟩ := bytes_of_first_seven hacc
    refine .inr ⟨hb0, hb1, rfl, ?_⟩
    rw [cksum_bytes, hb1, a1, a2, a3, a4]

end Sys2Proof.Machine

namespace Sys2Proof.Machine

/-! ## The transport operations: no answer, an answer out of range, the plain transport (O26, O27, O59) -/

/-- Settles O27: each of the five waits for its one answer, and DELAY for its completion. -/
theorem unansweredOperationsWait : Obligations.UnansweredOperationsWait := by
  refine ⟨fun i s hr hi => ?_, fun ms s hd => execDelay_wait ms hd⟩
  obtain rfl | rfl | rfl | ⟨len, timeout, rfl⟩ | ⟨len, data, rfl⟩ := hi
  · exact execRemainingRead_wait hr
  · exact execFlushRead_wait hr
  · exact execFlushWrite_wait hr
  · exact execRead_wait len timeout hr
  · exact execWrite_wait len data hr

/-- Settles O26: more than 8 bytes are out of range (`countInRange_eight`) for READ and WRITE alike. -/
theorem countAboveEightIsRefused : Obligations.CountAboveEightIsRefused := by
  rintro n s ⟨hr, he, rfl⟩ h8
  have hout : countInRange 8 s = false :=
    eq_false_of_ne_true (mt (countInRange_eight s).1 (Nat.not_le.2 h8))
  exact ⟨fun timeout => execRead_outOfRange 8 timeout hr he hout, fun data => execWrite_outOfRange 8 data hr he hout⟩

section PlainTransport
variable {s : State}

/-! ### What the plain transport answers -/

/-- R109, R190, T_NOFAIL: the plain transport answers every request, and answers it `Ok`. -/
theorem plainAnswer_ok (s : State) : (plainAnswer s).rsp = true ∧ (plainAnswer s).err = false := by
  unfold plainAnswer
  split_ifs <;> exact ⟨rfl, rfl⟩

/-- R181, T_COUNT: the port holds every count up to 65535. -/
theorem plainAnswer_count_remainingRead (hop : s.treq.op = TOp.remainingRead.code) (hq : s.rxq.length ≤ 65535) :
    (plainAnswer s).count.toNat = s.rxq.length := by
  simp only [plainAnswer, hop, if_true, BitVec.toNat_ofNat]
  omega

theorem plainAnswer_read (hop : s.treq.op = TOp.read.code) (hlen : s.treq.len = 8) :
    plainAnswer s =
      { rsp := true, count := BitVec.ofNat 16 (min 8 s.rxq.length), rdata := Buf.ofList (s.rxq.take 8) } := by
  simp [plainAnswer, hop, hlen, TOp.code]

/-- R184, T_GREEDY. -/
theorem plainAnswer_count_read (hop : s.treq.op = TOp.read.code) (hlen : s.treq.len = 8) :
    (plainAnswer s).count.toNat = min 8 s.rxq.length := by
  simp only [plainAnswer_read hop hlen, BitVec.toNat_ofNat]
  omega

/-- R187, T_FULLWRITE. -/
theorem plainAnswer_count_write (hop : s.treq.op = TOp.write.code) (hlen : s.treq.len = 8) :
    (plainAnswer s).count.toNat = 8 := by
  simp [plainAnswer, hop, hlen, TOp.code]

theorem toList_ofList (bs : List Byte) : (Buf.ofList bs).toList = (List.range 8).map fun i => bs.getD i 0 := rfl

/-- A buffer filled from a list gives back as many bytes as the list had. -/
theorem first_ofList {bs : List Byte} {n : Nat} (h8 : n ≤ 8) (hn : n ≤ bs.length) :
    (Buf.ofList bs).first n = bs.take n := by
  refine List.ext_getElem (by simp [first_length _ n h8, hn]) fun i hi _ => ?_
  rw [first_length _ n h8] at hi
  simp [Buf.first, toList_ofList, List.getElem?_eq_getElem (hi.trans_le hn)]

/-- R64, R185, T_FIFO: the bytes answered are the oldest buffered. -/
theorem plainAnswer_bytes_read (hop : s.treq.op = TOp.read.code) (hlen : s.treq.len = 8) :
    (plainAnswer s).rdata.first (min 8 s.rxq.length) = s.rxq.take (min 8 s.rxq.length) := by
  rw [plainAnswer_read hop hlen, first_ofList (Nat.min_le_left _ _) (by simp), List.take_take, Nat.min_right_comm,
    Nat.min_self]

/-! ### What the operation presented makes of an answer in range -/

@[simp] theorem afterScan_rxq (s : State) : (afterScan s).rxq = s.rxq := by
  obtain ⟨-, h⟩ | ⟨-, -, h⟩ | ⟨-, -, h⟩ := afterScan_cases s <;> simp [h]

@[simp] theorem scanBytes_rxq (bytes : List Byte) (s : State) : (scanBytes bytes s).rxq = s.rxq := by
  rw [scanBytes_frame, withReader_rxq]

/-- R149 to R159: what the reader does with a chunk leaves `rxq`. -/
@[simp] theorem onChunk_rxq (n : Nat) (data : Buf) (s : State) : (onChunk n data s).rxq = s.rxq := by
  obtain ⟨-, h⟩ | ⟨-, h⟩ := onChunk_cases n data s <;> simp [h, scanChunk]

/-- R64: a READ answered in range completes, and removes as many bytes as were answered. -/
theorem execRead_rxq (timeout : Millis) (hr : s.trsp.rsp = true) (he : s.trsp.err = false)
    (h8 : s.trsp.count.toNat ≤ 8) :
    ∃ u, execRead 8 timeout s = .next u ∧ u.rxq = s.rxq.drop s.trsp.count.toNat := by
  refine ⟨_, execRead_ok 8 timeout hr he ((countInRange_eight s).2 h8), ?_⟩
  split <;> simp

/-- R102: the request on the transport port that each operation is decoded from. -/
theorem decode_transport_cases {q : TReq} {i : Instr} (h : decode (.transport q) = .ok i) :
    (q.op = TOp.remainingRead.code ∧ i = .remainingRead) ∨ (q.op = TOp.flushRead.code ∧ i = .flushRead) ∨
      (q.op = TOp.flushWrite.code ∧ i = .flushWrite) ∨ (q.op = TOp.read.code ∧ i = .read q.len q.timeout) ∨
      (q.op = TOp.write.code ∧ i = .write q.len q.wdata) := by
  simp only [decode, decodeTransport] at h
  split_ifs at h with h0 h1 h2 h3 h4 <;> cases h
  · exact .inl ⟨h0, rfl⟩
  · exact .inr (.inl ⟨h1, rfl⟩)
  · exact .inr (.inr (.inl ⟨h2, rfl⟩))
  · exact .inr (.inr (.inr (.inl ⟨h3, rfl⟩)))
  · exact .inr (.inr (.inr (.inr ⟨h4, rfl⟩)))

/-- R180, R190: the operation presented takes an `Ok` answer, of at most 8 bytes to a READ or WRITE of 8, and
completes. -/
theorem exec_transport_completes {i : Instr} (hd : decode (.transport s.treq) = .ok i)
    (hr : s.trsp.rsp = true) (he : s.trsp.err = false)
    (h8 : s.treq.op = TOp.read.code ∨ s.treq.op = TOp.write.code → s.treq.len = 8 ∧ s.trsp.count.toNat ≤ 8) :
    ∃ u, exec i s = .next u ∧ (s.treq.op = TOp.read.code → u.rxq = s.rxq.drop s.trsp.count.toNat) := by
  obtain ⟨hop, rfl⟩ | ⟨hop, rfl⟩ | ⟨hop, rfl⟩ | ⟨hop, rfl⟩ | ⟨hop, rfl⟩ := decode_transport_cases hd
  · exact ⟨_, execRemainingRead_ok hr he, by simp [hop, TOp.code]⟩
  · exact ⟨_, execFlushRead_ok hr he, by simp [hop, TOp.code]⟩
  · exact ⟨_, execFlushWrite_ok hr he, by simp [hop, TOp.code]⟩
  · obtain ⟨hlen, hn⟩ := h8 (.inl hop)
    obtain ⟨u, hu, hrx⟩ := execRead_rxq s.treq.timeout hr he hn
    exact ⟨u, by rwa [hlen], fun _ => hrx⟩
  · obtain ⟨hlen, hn⟩ := h8 (.inr hop)
    rw [hlen]
    exact ⟨_, execWrite_ok 8 s.treq.wdata hr he ((countInRange_eight s).2 hn), by simp [hop, TOp.code]⟩

end PlainTransport

/-- Settles O59: the counts and bytes answered are the lemmas on `plainAnswer`; they are in range, so the operation
presented completes (`exec_transport_completes`). -/
theorem plainTransportMeetsItsAssumptions : Obligations.PlainTransportMeetsItsAssumptions := by
  rintro issued s t rfl hq hlen htreq hgrow
  obtain ⟨hr, he⟩ := plainAnswer_ok s
  have hread : s.treq.op = TOp.read.code → (plainAnswer s).count.toNat = min 8 s.rxq.length := fun hop =>
    plainAnswer_count_read hop (hlen (.inl hop))
  have hwrite : s.treq.op = TOp.write.code → (plainAnswer s).count.toNat = 8 := fun hop =>
    plainAnswer_count_write hop (hlen (.inr hop))
  refine ⟨fun i hd => ?_, fun hop _ => plainAnswer_count_remainingRead hop hq, fun hop hpos _ => ?_,
    fun hop _ _ => ?_, he, fun hop _ => hwrite hop⟩
  · have h8 (hop : s.treq.op = TOp.read.code ∨ s.treq.op = TOp.write.code) :
        s.treq.len = 8 ∧ (plainAnswer s).count.toNat ≤ 8 :=
      ⟨hlen hop, hop.elim (fun h => (hread h).trans_le (Nat.min_le_left _ _)) fun h => (hwrite h).le⟩
    obtain ⟨u, hu, hrx⟩ := exec_transport_completes (s := { s with trsp := plainAnswer s }) hd hr he h8
    refine ⟨u, hu, fun hop _ => ⟨?_, ?_, hrx hop⟩⟩
    · exact (hread hop).trans_le (Nat.min_le_right _ _)
    · simp only [answerBytes, answerCount, hread hop]
      exact plainAnswer_bytes_read hop (hlen (.inl hop))
  · rw [htreq] at hop
    have hcount : answerCount { s with trsp := plainAnswer s } = min 8 s.rxq.length := hread hop
    omega
  · have hlen8 : s.treq.len.toNat = 8 := congrArg BitVec.toNat (hlen (.inl hop))
    exact (hread hop).trans (congrArg (min · s.rxq.length) hlen8.symm)

end Sys2Proof.Machine

namespace Sys2Proof.Machine

/-! ## The failed flush of the failure path (O25) -/

/-- Settles O25: the waiting reader ends in `failTransport`, whose kind takes the pending one's place. -/
theorem flushReadErrReplacesThePendingKind : Obligations.FlushReadErrReplacesThePendingKind := by
  rintro e s ⟨hr, he, rfl⟩ hp hk
  refine ⟨_, (execFlushRead_err hr he).trans (by rw [if_pos hp]), ?_⟩
  simp [endedWith, portsClosed, sameSender, sameOutside, hk]

/-! ## The kind that is never raised (O51)

The statement is about every state, also one that does not meet `Inv`, so it is proved operation by operation and not by
the list of the block's moves: each operation that writes `err` or `perr` writes another kind or moves the pending one.
An update that writes neither keeps `NoMissingData` by definition: `h` of the state before it is the proof. -/

/-- R204: neither the reported nor the pending kind is ACK_MISSING_DATA. -/
def NoMissingData (s : State) : Prop := s.err ≠ .ackMissingData ∧ s.perr ≠ .ackMissingData

section MissingData
variable {s t : State}

theorem NoMissingData.ite {c : Prop} [Decidable c] (hs : NoMissingData s) (ht : NoMissingData t) :
    NoMissingData (if c then s else t) := by
  split
  · exact hs
  · exact ht

/-- R37: the operation ends with a kind. -/
theorem NoMissingData.complete (h : NoMissingData s) {kind : ErrKind} (hk : kind ≠ .ackMissingData) :
    NoMissingData (complete kind s) := ⟨hk, h.2⟩

/-- R207: failing reports its kind. -/
theorem NoMissingData.fail (h : NoMissingData s) {kind : ErrKind} (hk : kind ≠ .ackMissingData) :
    NoMissingData (fail kind s) := ⟨hk, h.2⟩

/-- R209, R210: the kind reported is TRANSPORT_FAILURE. -/
theorem NoMissingData.failTransport (h : NoMissingData s) (e : TErr) : NoMissingData (failTransport e s) :=
  ⟨by simp, h.2⟩

/-- R208: the flush keeps its kind pending. -/
theorem NoMissingData.failFlush (h : NoMissingData s) {kind : ErrKind} (hk : kind ≠ .ackMissingData) :
    NoMissingData (failFlush kind s) := ⟨h.1, hk⟩

/-- R36: a start writes NONE. -/
theorem NoMissingData.startFlags (h : NoMissingData s) (kind : HostOp) (line : TraceLine) :
    NoMissingData (startFlags kind line s) := ⟨by simp, h.2⟩

/-- R142: the reader's initialisation writes NONE. -/
theorem NoMissingData.initReader (h : NoMissingData s) (timeout : Millis) : NoMissingData (initReader timeout s) :=
  ⟨h.1, by simp⟩

/-- R143, R160: the loop head flushes for ACK_TIMEOUT or writes no kind. -/
theorem NoMissingData.loopHead (h : NoMissingData s) : NoMissingData (loopHead s) := by
  obtain ⟨-, e⟩ | ⟨-, e⟩ := loopHead_cases s <;> rw [e]
  · exact h.failFlush (by simp)
  · exact h

/-- R155, R158, R159: a scan ends in the delay, in success or in the flush for ACK_CHECKSUM_MISMATCH. -/
theorem NoMissingData.afterScan (h : NoMissingData s) : NoMissingData (afterScan s) := by
  obtain ⟨-, e⟩ | ⟨-, -, e⟩ | ⟨-, -, e⟩ := afterScan_cases s <;> rw [e]
  · exact h
  · exact ⟨by simp, h.2⟩
  · exact h.failFlush (by simp)

/-- R148, R149: no bytes are an ACK_TIMEOUT; others are scanned, which writes no kind. -/
theorem NoMissingData.onChunk (h : NoMissingData s) (n : Nat) (data : Buf) : NoMissingData (onChunk n data s) := by
  obtain ⟨-, e⟩ | ⟨-, e⟩ := onChunk_cases n data s <;> rw [e]
  · exact h.failFlush (by simp)
  · rw [scanChunk, scanBytes_frame]
    exact .afterScan h

/-- R230: a reset edge writes NONE to both; no other agent writes either. -/
theorem NoMissingData.moveEnv (h : NoMissingData s) : NoMissingData (moveEnv s) := by
  obtain ⟨rest, e⟩ | ⟨-, hreader, -, hstatus⟩ := moveEnv_reset_or_same s
  · rw [e]
    exact ⟨by simp, by simp⟩
  · obtain ⟨-, -, -, -, -, -, hperr, -⟩ := hreader
    obtain ⟨herr, -⟩ := hstatus
    rwa [NoMissingData, herr, hperr]

/-- R28: with nothing presented the loop head is taken, or the other agents move. -/
theorem NoMissingData.noRequest (h : NoMissingData s) : NoMissingData (noRequest s) :=
  h.loopHead.ite h.moveEnv

/-! ### Operation by operation -/

/-- R180: a transport operation has no answer yet, or `Err`, or `Ok`. -/
theorem answer_cases (s : State) :
    s.trsp.rsp = false ∨ (s.trsp.rsp = true ∧ s.trsp.err = true) ∨ (s.trsp.rsp = true ∧ s.trsp.err = false) := by
  cases s.trsp.rsp <;> cases s.trsp.err <;> simp

theorem NoMissingData.remainingRead (h : NoMissingData s) (hn : execRemainingRead s = .next t) : NoMissingData t := by
  obtain hr | ⟨hr, he⟩ | ⟨hr, he⟩ := answer_cases s
  · rw [execRemainingRead_wait hr] at hn; cases hn
    exact h
  · rw [execRemainingRead_err hr he] at hn; cases hn
    exact .ite (.failTransport h s.trsp.errval) h
  · rw [execRemainingRead_ok hr he] at hn; cases hn
    exact .ite (.ite h h) h

/-- R208, R210: the pending kind is reported, or TRANSPORT_FAILURE in its place. -/
theorem NoMissingData.flushRead (h : NoMissingData s) (hn : execFlushRead s = .next t) : NoMissingData t := by
  obtain hr | ⟨hr, he⟩ | ⟨hr, he⟩ := answer_cases s
  · rw [execFlushRead_wait hr] at hn; cases hn
    exact h
  · rw [execFlushRead_err hr he] at hn; cases hn
    exact .ite (.failTransport h s.trsp.errval) h
  · rw [execFlushRead_ok hr he] at hn; cases hn
    exact .ite (.fail h h.2) h

theorem NoMissingData.flushWrite (h : NoMissingData s) (hn : execFlushWrite s = .next t) : NoMissingData t := by
  obtain hr | ⟨hr, he⟩ | ⟨hr, he⟩ := answer_cases s
  · rw [execFlushWrite_wait hr] at hn; cases hn
    exact h
  · rw [execFlushWrite_err hr he] at hn; cases hn
    exact .ite (.failTransport h s.trsp.errval) h
  · rw [execFlushWrite_ok hr he] at hn; cases hn
    exact .ite h h

theorem NoMissingData.read (h : NoMissingData s) {len : BitVec 4} {timeout : Millis}
    (hn : execRead len timeout s = .next t) : NoMissingData t := by
  obtain hr | ⟨hr, he⟩ | ⟨hr, he⟩ := answer_cases s
  · rw [execRead_wait len timeout hr] at hn; cases hn
    exact h
  · rw [execRead_err len timeout hr he] at hn; cases hn
    exact .ite (.failTransport h s.trsp.errval) h
  · cases hc : countInRange len s
    · rw [execRead_outOfRange len timeout hr he hc] at hn; cases hn
    · rw [execRead_ok len timeout hr he hc] at hn; cases hn
      exact .ite (.onChunk (s := popRx _ (record _ (takeAnswer s))) h _ _) h

theorem NoMissingData.write (h : NoMissingData s) {len : BitVec 4} {data : Buf}
    (hn : execWrite len data s = .next t) : NoMissingData t := by
  obtain hr | ⟨hr, he⟩ | ⟨hr, he⟩ := answer_cases s
  · rw [execWrite_wait len data hr] at hn; cases hn
    exact h
  · rw [execWrite_err len data hr he] at hn; cases hn
    exact .ite (.failTransport h s.trsp.errval) h
  · cases hc : countInRange len s
    · rw [execWrite_outOfRange len data hr he hc] at hn; cases hn
    · rw [execWrite_ok len data hr he hc] at hn; cases hn
      exact .ite (.complete h (by simp)) h

theorem NoMissingData.delay (h : NoMissingData s) {ms : Millis} (hn : execDelay ms s = .next t) : NoMissingData t := by
  cases hd : s.dly.done
  · rw [execDelay_wait ms hd] at hn; cases hn
    exact h
  · rw [execDelay_done ms hd] at hn; cases hn
    exact .ite (.loopHead h) h

theorem NoMissingData.send (h : NoMissingData s) {code p0 p1 p2 : Byte} {timeout : Millis}
    (hn : execSend code p0 p1 p2 timeout s = .next t) : NoMissingData t := by
  cases hb : s.busy
  · rw [execSend_start _ _ _ _ _ hb] at hn; cases hn
    exact .startFlags h .send (.send code p0 p1 p2)
  · rw [execSend_busy _ _ _ _ _ hb] at hn; cases hn
    exact h

theorem NoMissingData.rdack (h : NoMissingData s) {timeout : Millis} (hn : execRdack timeout s = .next t) :
    NoMissingData t := by
  cases hb : s.busy
  · rw [execRdack_start _ hb] at hn; cases hn
    exact ((h.startFlags _ _).initReader timeout).loopHead
  · rw [execRdack_busy _ hb] at hn; cases hn
    exact h

/-- R204: no operation raises ACK_MISSING_DATA. -/
theorem NoMissingData.exec (h : NoMissingData s) {i : Instr} (hn : exec i s = .next t) : NoMissingData t := by
  cases i with
  | cksum | build | cmd | ack => cases hn; exact h
  | huntDiscard | huntSync | accAppend | surplusDrop => cases hn; exact .ite h h
  | send _ _ _ _ timeout => exact h.send (timeout := timeout) hn
  | rdack => exact h.rdack hn
  | remainingRead => exact h.remainingRead hn
  | flushRead => exact h.flushRead hn
  | flushWrite => exact h.flushWrite hn
  | read => exact h.read hn
  | write => exact h.write hn
  | delay => exact h.delay hn

end MissingData

/-- Settles O51: a step runs an operation (`NoMissingData.exec`) or is the turn of what waits
(`NoMissingData.noRequest`). -/
theorem missingDataIsNeverRaised : Obligations.MissingDataIsNeverRaised := by
  intro s t he hp hstep
  have h : NoMissingData s := ⟨he, hp⟩
  obtain ⟨r, i, -, -, hn⟩ | ⟨rfl, -⟩ := step_cases hstep
  · exact NoMissingData.exec (s := { s with direct := none }) h hn
  · exact h.noRequest

end Sys2Proof.Machine

namespace Sys2Proof.Machine

/-! ## The reset edge (O41) -/

/-- R5: with nothing presented and no loop head to take, the step is the other agents' turn. -/
theorem step_eq_moveEnv {s : State} (hp : pending s = none) (hh : s.ph ≠ .rHead) : step s = .next (moveEnv s) := by
  simp [step, cycle, hp, noRequest, hh]

/-- R230: a scheduled `rst` makes that turn a reset edge. -/
theorem moveEnv_rst {s : State} {rest : List EnvStep} (henv : s.env = .rst :: rest) :
    moveEnv s = resetEdge { s with env := rest } := by
  simp [moveEnv, henv, applyEnv]

/-- Settles O41: the step is a reset edge (`step_eq_moveEnv`, `moveEnv_rst`), and each value is a field of
`resetEdge`. -/
theorem resetEdgeAbandonsTheOperation : Obligations.ResetEdgeAbandonsTheOperation := by
  intro s rest hp hh henv
  refine ⟨resetEdge { s with env := rest }, ?_, ?_⟩
  · rw [step_eq_moveEnv hp hh, moveEnv_rst henv]
  · simp [ackValid, sameQueues]

end Sys2Proof.Machine

namespace Sys2Proof.Machine

/-! ## What a step runs (O38) -/

section Presented
variable {s : State}

/-- R41: an answered transaction is presented before a delay or a start. -/
theorem pending_transport (hn : s.direct = none) (hq : s.treq.req = true) (hr : s.trsp.rsp = true) :
    pending s = some (.transport s.treq) := by
  simp [pending, hn, hq, hr]

/-- R42: a completed delay, with no transaction outstanding. -/
theorem pending_delay (hn : s.direct = none) (hq : s.treq.req = false) (hd : s.dly.req = true)
    (hdone : s.dly.done = true) : pending s = some (.delay s.dly.ms) := by
  simp [pending, hn, hq, hd, hdone]

/-- R36, R38: a start while not busy, with neither outstanding. -/
theorem pending_host (hn : s.direct = none) (hq : s.treq.req = false) (hd : s.dly.req = false)
    (hs : s.host.start = true) (hb : s.busy = false) : pending s = some (.host s.host) := by
  simp [pending, hn, hq, hd, hs, hb]

/-- The step runs what is presented, an internal invocation being used up. -/
theorem step_of_pending {r : Request} {i : Instr} (hp : pending s = some r) (hd : decode r = .ok i) :
    step s = exec i { s with direct := none } := by
  simp [step, cycle, hp, hd]

/-- With no internal invocation the step runs what is presented on the state itself. -/
theorem step_of_port {r : Request} {i : Instr} (hn : s.direct = none) (hp : pending s = some r)
    (hd : decode r = .ok i) : step s = exec i s := by
  rw [step_of_pending hp hd, directNone_eq hn]

end Presented

/-- Settles O38: the first clause is `step_of_pending`; for each port, what it presents is a `pending_…` lemma. -/
theorem stepRunsTheDecodedInstruction : Obligations.StepRunsTheDecodedInstruction :=
  ⟨fun _ _ _ => step_of_pending,
    fun _ _ hn hq hr hd => step_of_port hn (pending_transport hn hq hr) hd,
    fun _ hn hq hd hdone => step_of_port hn (pending_delay hn hq hd hdone) rfl,
    fun _ _ hn hq hd hs hb hi => step_of_port hn (pending_host hn hq hd hs hb) hi⟩

end Sys2Proof.Machine

namespace Sys2Proof.Machine

/-! ## An answer nothing waits for (O28) -/

/-- The block's elements are as they were: only the transport port, the queues, the trace and the counter of free
values may differ. -/
def SameBlock (s t : State) : Prop :=
  sameReader s t ∧ sameSender s t ∧ sameStatus s t ∧ t.ph = s.ph ∧ t.dly = s.dly ∧ sameOutside s t

section Unawaited
variable {s t : State}

theorem SameBlock.refl (s : State) : SameBlock s s := by
  simp [SameBlock, sameReader, sameSender, sameStatus, sameOutside]

/-- A meaning that reaches the block only under `c` leaves it where `c` fails: `u` is then the state it answers. -/
theorem SameBlock.of_else {c : Prop} [Decidable c] {o : Host.Outcome State Fault Refusal} {x u : State} (hc : ¬c)
    (ho : o = .next (if c then x else u)) (hu : SameBlock s u) (h : o = .next t) : SameBlock s t := by
  rw [ho, if_neg hc] at h; cases h
  exact hu

/-! For each operation the state answered outside its phase is `s` but for the fields `SameBlock` leaves out, so
`SameBlock.refl s` is the proof. -/

theorem execRemainingRead_unawaited (hp : s.ph ≠ .rAvail) (hr : s.trsp.rsp = true)
    (h : execRemainingRead s = .next t) : SameBlock s t := by
  cases he : s.trsp.err
  · exact .of_else hp (execRemainingRead_ok hr he) (.refl s) h
  · exact .of_else hp (execRemainingRead_err hr he) (.refl s) h

theorem execFlushRead_unawaited (hp : s.ph ≠ .rFlushR) (hr : s.trsp.rsp = true)
    (h : execFlushRead s = .next t) : SameBlock s t := by
  cases he : s.trsp.err
  · exact .of_else hp (execFlushRead_ok hr he) (.refl s) h
  · exact .of_else hp (execFlushRead_err hr he) (.refl s) h

theorem execFlushWrite_unawaited (hp : s.ph ≠ .sFlushW) (hr : s.trsp.rsp = true)
    (h : execFlushWrite s = .next t) : SameBlock s t := by
  cases he : s.trsp.err
  · exact .of_else hp (execFlushWrite_ok hr he) (.refl s) h
  · exact .of_else hp (execFlushWrite_err hr he) (.refl s) h

theorem execRead_unawaited {len : BitVec 4} {timeout : Millis} (hp : s.ph ≠ .rRead) (hr : s.trsp.rsp = true)
    (h : execRead len timeout s = .next t) : SameBlock s t := by
  cases he : s.trsp.err
  · cases hn : countInRange len s
    · rw [execRead_outOfRange len timeout hr he hn] at h; cases h
    · exact .of_else hp (execRead_ok len timeout hr he hn) (.refl s) h
  · exact .of_else hp (execRead_err len timeout hr he) (.refl s) h

theorem execWrite_unawaited {len : BitVec 4} {data : Buf} (hp : s.ph ≠ .sWrite) (hr : s.trsp.rsp = true)
    (h : execWrite len data s = .next t) : SameBlock s t := by
  cases he : s.trsp.err
  · cases hn : countInRange len s
    · rw [execWrite_outOfRange len data hr he hn] at h; cases h
    · exact .of_else hp (execWrite_ok len data hr he hn) (.refl s) h
  · exact .of_else hp (execWrite_err len data hr he) (.refl s) h

end Unawaited

/-- Settles O28: with no answer the state stays as it is (`unansweredOperationsWait`); an answered operation leaves the
block alone outside the one phase in which it is outstanding (the `…_unawaited` lemmas). -/
theorem answersNothingWaitsForAreIgnored : Obligations.AnswersNothingWaitsForAreIgnored := by
  intro i o s t hi ho h
  change SameBlock s t
  cases hr : s.trsp.rsp with
  | false =>
    have hwait : exec i s = .next s :=
      unansweredOperationsWait.1 i s hr
        (hi.imp And.left (.imp And.left (.imp And.left (.imp And.left And.left))))
    rw [hwait] at h; cases h
    exact .refl s
  | true =>
    obtain ⟨rfl, rfl⟩ | ⟨rfl, rfl⟩ | ⟨rfl, rfl⟩ | ⟨⟨len, timeout, rfl⟩, rfl⟩ | ⟨⟨len, data, rfl⟩, rfl⟩ := hi
    · exact execRemainingRead_unawaited (ne_of_apply_ne Phase.outstanding ho) hr h
    · exact execFlushRead_unawaited (ne_of_apply_ne Phase.outstanding ho) hr h
    · exact execFlushWrite_unawaited (ne_of_apply_ne Phase.outstanding ho) hr h
    · exact execRead_unawaited (ne_of_apply_ne Phase.outstanding ho) hr h
    · exact execWrite_unawaited (ne_of_apply_ne Phase.outstanding ho) hr h

end Sys2Proof.Machine

namespace Sys2Proof.Machine

/-! ## Scan actions that do not apply; CKSUM and the wire frames on their own (O36, O3, O37) -/

section NotApplied
variable {s : State}

/-- R150: the context of HUNT_DISCARD and HUNT_SYNC. -/
theorem scanCtx_eq_hunting_iff : scanCtx s = .hunting ↔ s.rs = .hunting ∧ s.accLen ≠ 8 := by
  by_cases h8 : s.accLen = 8
  · simp [scanCtx_full h8, h8]
  · by_cases hr : s.rs = .hunting
    · simp [scanCtx_hunting h8 hr, hr, h8]
    · simp [scanCtx_room h8 hr, hr]

theorem execHuntSync_not_hunting (h : scanCtx s ≠ .hunting) : execHuntSync s = .next s :=
  congrArg Host.Outcome.next (if_neg h)

theorem execAccAppend_no_room (b : Byte) (h : ¬(s.rs = .accumulating ∧ s.accLen < 8)) :
    execAccAppend b s = .next s :=
  congrArg Host.Outcome.next (if_neg h)

end NotApplied

/-- Settles O36: the two dropping actions never change the state; the other two write under a guard that the hypothesis
negates. -/
theorem scanActionsThatDoNotApplyChangeNothing : Obligations.ScanActionsThatDoNotApplyChangeNothing := by
  rintro i s (⟨b, rfl, -⟩ | ⟨rfl, hctx⟩ | ⟨⟨b, rfl⟩, hctx⟩ | ⟨⟨b, rfl⟩, -⟩)
  · exact execHuntDiscard_eq b s
  · exact execHuntSync_not_hunting fun h => by
      obtain ⟨hr, h8⟩ := scanCtx_eq_hunting_iff.1 h
      exact hctx.elim (· hr) h8
  · exact execAccAppend_no_room b fun ⟨hr, h8⟩ => hctx.elim (· hr) h8.not_ge
  · exact execSurplusDrop_eq b s

/-- R120: CKSUM run alone writes its result and nothing else. -/
theorem exec_cksum (f : Buf) (s : State) : exec (.cksum f) s = .next { s with ckOut := cksum f } := rfl

/-- Settles O3: CKSUM writes `cksum` (`exec_cksum`), which is the XOR of bytes 1 to 5 (`cksum_bytes`). -/
theorem cksumCompletes : Obligations.CksumCompletes := by
  intro f s
  rw [exec_cksum, cksum_bytes]

/-- R91: a command frame joins the tail of `txq`. -/
theorem exec_cmd (c a b d k : Byte) (s : State) : exec (.cmd c a b d k) s = .next (pushTx (cmdBytes c a b d k) s) := rfl

/-- R92: an acknowledgement message joins the tail of `rxq`. -/
theorem exec_ack (t q r u v k : Byte) (w : Option Byte) (s : State) :
    exec (.ack t q r u v k w) s = .next (pushRx (ackBytes t q r u v k w) s) := rfl

/-- Settles O37: each frame is pushed whole (`exec_cmd`, `exec_ack`), and its bytes are those of `cmdBytes` and
`ackBytes`. -/
theorem wireFramesTravelWhole : Obligations.WireFramesTravelWhole :=
  ⟨exec_cmd, fun t q r u v k w => exec_ack t q r u v k (some w), fun t q r u v k => exec_ack t q r u v k none⟩

end Sys2Proof.Machine
